-- ==== Sys2Proof/Word.lean ====
section
/-! DEFINITION. Word.lean: the word types of the bridge. -/

namespace Sys2Proof

/-- One byte: of the window, of the flash, of the link or of a data lane. -/
abbrev Byte := BitVec 8

/-- A logical byte address of the window: 20 significant bits (R1). -/
abbrev LogAddr := BitVec 20

end Sys2Proof
end

