-- ==== Sys2Proof/Syntax.lean ====
section
/-! DEFINITION. Syntax.lean: the 36 commands of the bridge, one constructor per row of spec/opcode_table.json, in the
table's order. A command is one step of the part (95_what_each_step_holds.md): an edge of a pin, the end of a link
operation with what the flash returned, the expiry of a count, or a step that a block takes on its own. The operands are
what the step brings from outside the bridge: pin levels, the status byte of a STATUS read, the bytes a READ clocked in. -/

namespace Sys2Proof

/-- One command (one row of the table). Pins are given at their level: `true` is high. -/
inductive Instr where
  /-- HLAT_FALL (R132): HAD[15:0] and HAU[3:0] as sampled at the edge. -/
  | hlatFall (had : BitVec 16) (hau : BitVec 4)
  /-- DATA_PHASE_START (R133): HDIR (1 a read), HLANEn and HAD as sampled at HSTBn's falling edge. -/
  | dataPhaseStart (hdir hlanen : Bool) (had : BitVec 16)
  /-- DATA_PHASE_END (R133). -/
  | dataPhaseEnd
  /-- READY_HOLD_LIMIT_EXPIRY (R141). -/
  | readyHoldLimitExpiry
  /-- WAITING_WRITE_REDECIDE (R26). -/
  | waitingWriteRedecide
  /-- RSTN_ASSERT (R148). -/
  | rstnAssert
  /-- RESET_RELEASE (R167): the levels of WIDE, FMT, SVC and PWRWARNn at RSTn's rising edge. -/
  | resetRelease (wide fmt svc pwrwarnn : Bool)
  /-- INTERNAL_RESET_END (R164): the same pins at the end of the internal reset. -/
  | internalResetEnd (wide fmt svc pwrwarnn : Bool)
  /-- FLUSH_RISING_EDGE (R154). -/
  | flushRisingEdge
  /-- POWER_WARNING_ASSERTION (R156). -/
  | powerWarningAssertion
  /-- POWER_WARNING_DEASSERTION (R160). -/
  | powerWarningDeassertion
  /-- DRAIN_FINISHED (R157). -/
  | drainFinished
  /-- HALTED_POWER_DOWN (R129). -/
  | haltedPowerDown
  /-- QUIET_COUNT_EXPIRY (R153). -/
  | quietCountExpiry
  /-- HOLD_COUNT_EXPIRY (R153). -/
  | holdCountExpiry
  /-- DOZE_COUNT_EXPIRY (R127). -/
  | dozeCountExpiry
  /-- PROGRESS_GUARD_PASSES (R118). -/
  | progressGuardPasses
  /-- SUSPEND_STATUS (R119): the status byte of a STATUS read after SUSPEND. -/
  | suspendStatus (st : Byte)
  /-- RESUME_STATUS (R120): the status byte of a STATUS read after RESUME. -/
  | resumeStatus (st : Byte)
  /-- SUSPEND_LATENCY_EXPIRY (R119). -/
  | suspendLatencyExpiry
  /-- BUSY_LIMIT_EXPIRY (R111). -/
  | busyLimitExpiry
  /-- LINK_GRANT (R115). -/
  | linkGrant
  /-- WAKE_INTERVAL_END (R128). -/
  | wakeIntervalEnd
  /-- WRITE_ENABLE_STATUS (R110): the status byte after ENABLE_WRITE. -/
  | writeEnableStatus (st : Byte)
  /-- HOST_READ_RUN_END (R38): the one or two bytes of the run. -/
  | hostReadRunEnd (bytes : List Byte)
  /-- PAGE_READ_END (R46): the 256 bytes of the page. -/
  | pageReadEnd (bytes : List Byte)
  /-- PROGRAM_END (R111): the outcome status. -/
  | programEnd (st : Byte)
  /-- READ_BACK_END (R51): the 256 or 16 bytes just programmed. -/
  | readBackEnd (bytes : List Byte)
  /-- ERASE_END (R111): the outcome status. -/
  | eraseEnd (st : Byte)
  /-- JOURNAL_NEXT_REQUEST (R75). -/
  | journalNextRequest
  /-- COMMIT_TAKE (R45). -/
  | commitTake
  /-- ERASE_ENGINE_REQUEST (R95). -/
  | eraseEngineRequest
  /-- IDENTIFY_END (R130): the three identity bytes in the order received. -/
  | identifyEnd (b0 b1 b2 : Byte)
  /-- SETTLE_END (R130): the status byte of a STATUS read of the settle. -/
  | settleEnd (st : Byte)
  /-- MOUNT_READ_END (R170): the 16, 64 or 256 bytes of the mount read. -/
  | mountReadEnd (bytes : List Byte)
  /-- POWER_ON (R148). -/
  | powerOn
  deriving DecidableEq, Repr

end Sys2Proof
end

