-- ==== Sys2Proof/Decode.lean ====
section
/-! DEFINITION. Decode.lean: the command that a word spells by the table's bits. The bridge has no instruction words: no
row of spec/opcode_table.json has bits ("fields" is empty in every row, and no row has a match or a mask), so no word
spells a command. -/

namespace Sys2Proof

/-- The command that a word of `nbits` bits spells by the table: none, for every word, since no row of the table gives
bits. -/
def decodeTableWord (_nbits _w : Nat) : Option Instr :=
  none

end Sys2Proof
end

