-- ==== Sys2Proof/Config.lean ====
section
/-! DEFINITION. Config.lean: the sizes that the types of the state rest on (00_scope.md, Fixed geometry). The
part fixes every one of them: neither the straps nor the configuration record alters them, and the spec leaves
no value of the block to an implementation, so there is no free constant here. -/

namespace Sys2Proof.Config

/-- Staging slots (R18). -/
abbrev slotCount : Nat := 16

/-- Bytes of a page, of a staging slot and of the work page (R1, R18, R46). -/
abbrev pageBytes : Nat := 256

/-- Logical sectors of the window (R1). -/
abbrev logicalSectors : Nat := 256

/-- Physical sectors of the flash (R2). -/
abbrev physicalSectors : Nat := 512

/-- Journal sectors J0 to J7 (R2). -/
abbrev journalSectors : Nat := 8

end Sys2Proof.Config
end

