-- ==== Sys2Proof/Machine/State.lean ====
section
/-! DEFINITION. State.lean: the state of the bridge as plain data, block by block as 00_scope.md's block overview names
the owner of each piece, and `State.reset`. -/

namespace Sys2Proof.Machine

/-! ## Staging buffer (chapter 2) -/

/-- The four slot states (R19). -/
inductive SlotState where
  | free | filling | sealed | committing
  deriving DecidableEq, Repr

/-- A staging slot: the five fields of R18. -/
structure Slot where
  state : SlotState
  /-- Logical page number; absent when FREE. -/
  page : Option Nat
  data : Vector Byte Config.pageBytes
  /-- The written map: one flag per byte offset. -/
  written : Vector Bool Config.pageBytes
  /-- Allocation order among the FILLING slots, 1 the oldest; present in FILLING only. -/
  rank : Option Nat
  deriving DecidableEq, Repr

/-- A write presented to the staging buffer (R21): a page and one or two (offset, value) bytes. -/
structure PageWrite where
  page : Nat
  bytes : List (Nat × Byte)
  deriving DecidableEq, Repr

/-- The staging buffer: slots, commit queue and waiting write (R18, R30, R25). -/
structure Staging where
  slots : Vector Slot Config.slotCount
  queue : List Nat
  waiting : Option PageWrite
  deriving DecidableEq, Repr

/-- The seal timer's two counts (R149): stopped, or running since a time. -/
structure SealTimer where
  quiet : Option Nat
  hold : Option Nat
  deriving DecidableEq, Repr

/-! ## Sector map unit (chapter 1) -/

/-- The states of a physical sector (R6). -/
inductive SectorState where
  | journal | mapped | target | spareClean | spareDirty | retired
  deriving DecidableEq, Repr

/-- One record of the physical sector table (R6). After reset and in FAULT a data sector's record has no state (R9). -/
structure SectorRecord where
  state : Option SectorState
  owner : Option Nat
  retirePending : Bool
  /-- The usable flag of a journal sector, which the map journal keeps (R6, R67). -/
  usable : Bool
  deriving DecidableEq, Repr

/-- The sector map and the physical sector table (R3, R6). -/
structure Tables where
  map : Vector (Option Nat) Config.logicalSectors
  sector : Vector SectorRecord Config.physicalSectors
  deriving DecidableEq, Repr

/-! ## Map journal (chapter 4) -/

/-- Cause of a REMAP (R71, R194). -/
inductive RemapCause where
  | ordinary | inPlaceFailed
  deriving DecidableEq, Repr

/-- Cause of a RETIRE (R71, R194). -/
inductive RetireCause where
  | programFail | verifyFail | eraseFail
  deriving DecidableEq, Repr

/-- The entry of an append request (R67): its kind and payload. -/
inductive Payload where
  | remap (logical new old : Nat) (cause : RemapCause)
  | retire (sector : Nat) (cause : RetireCause)
  deriving DecidableEq, Repr

/-- The requester of an append (R67). -/
inductive Requester where
  | commitEngine | eraseEngine
  deriving DecidableEq, Repr

/-- A request of the journal's list (R67): an append, or the erase engine's opening to record a withdrawal (R84). -/
inductive JournalRequest where
  | append (who : Requester) (entry : Payload)
  | record (withdrawn : Nat)
  deriving DecidableEq, Repr

/-- The journal's activity (R67). -/
inductive JournalActivity where
  | idle | appending | opening
  deriving DecidableEq, Repr

/-- Why a sector is being opened (R67). -/
inductive OpenPurpose where
  | entry | recording | format | mount
  deriving DecidableEq, Repr

/-- Which link operation of the opening is awaited: the candidate's erase (R79), the program or the read-back of a
position (R81), or the two operations of a void (R82). -/
inductive OpenStage where
  | erase
  | program (position : Nat)
  | check (position : Nat)
  | voidProgram
  | voidCheck
  deriving DecidableEq, Repr

/-- The opening field of R67, with the number being written (R80), the operation awaited, and the entries of positions 1
to 66 + r once step 2 of R81 has taken them. -/
structure Opening where
  purpose : OpenPurpose
  candidate : Nat
  number : Nat
  stage : OpenStage
  images : List (List Byte)
  deriving DecidableEq, Repr

/-- The map journal's state (R67). The usable flags stand in the physical sector table. -/
structure Journal where
  active : Option Nat
  previous : Option Nat
  sequence : Option Nat
  appendPos : Option Nat
  pendingErase : Vector Bool Config.journalSectors
  requests : List JournalRequest
  activity : JournalActivity
  opening : Option Opening
  deriving DecidableEq, Repr

/-! ## Commit engine (chapter 3) -/

/-- The kind of a job (R44). -/
inductive JobKind where
  | undecided | inPlace | relocate
  deriving DecidableEq, Repr

/-- The phases of a job (R44). -/
inductive Phase where
  | decide | programInPlace | allocate | copy | verify | journal | finish
  deriving DecidableEq, Repr

/-- The journal entry a job waits for (R44). -/
inductive Awaited where
  | remap | retireTarget | retireSpare | retireSource
  deriving DecidableEq, Repr

/-- The commit job record (R44). -/
structure Job where
  logical : Nat
  source : Nat
  /-- Slot numbers, ordered by page within the sector. -/
  slots : List Nat
  kind : JobKind
  target : Option Nat
  attempt : Nat
  cursor : Nat
  phase : Phase
  /-- IN_PLACE_FAILED with the failure that caused it (PROGRAM_FAIL or VERIFY_FAIL), once present. -/
  fallback : Option RetireCause
  awaited : Option Awaited
  deriving DecidableEq, Repr

/-- The commit engine: idle or holding one job (R43), and its 256-byte work page (R46). -/
structure CommitEngine where
  job : Option Job
  workPage : List Byte
  deriving DecidableEq, Repr

/-! ## Erase engine (chapter 5) -/

/-- The erase engine's activity with its subject (R94). -/
inductive EraserActivity where
  | idle
  | requesting
  | erasingJournal (sector : Nat)
  | erasingSpare (sector : Nat)
  | retiring (sector : Nat)
  | recording (sector : Nat)
  deriving DecidableEq, Repr

/-- The spare pool and the erase engine: the spare list in order (R87), and the activity. -/
structure SparePool where
  spares : List Nat
  eraser : EraserActivity
  deriving DecidableEq, Repr

/-! ## Flash link controller (chapter 6) -/

/-- The power state of the flash (R125). -/
inductive PowerState where
  | unknown | awake | waking | down
  deriving DecidableEq, Repr

/-- A host read run (R38, R117): the page and first offset of its bytes, their number, whether it is committed, and whether
its cycle has ended so that its bytes are to be discarded. -/
structure Run where
  page : Nat
  offset : Nat
  len : Nat
  committed : Bool
  discard : Bool
  deriving DecidableEq, Repr

/-- The link operations (R109) with their operands; addresses are physical byte addresses (R2). -/
inductive FlashOp where
  | hostRun (run : Run) (addr : Nat)
  | pageRead (addr : Nat)
  | readBack (addr len : Nat)
  | program (addr : Nat) (data : List Byte)
  | erase (sector : Nat)
  | wake
  | identify
  | mountRead (addr len : Nat)
  | settle
  deriving DecidableEq, Repr

/-- The blocks that request link operations (R109). -/
inductive LinkUser where
  | readService | mount | commitEngine | journal | eraseEngine
  deriving DecidableEq, Repr

/-- How far the operation in progress has come: the wake before its first command, running since a time (R128); a read or
an identify clocking its bytes in; write enable (R110); polling for BUSY clear since a time (R111); and the settle, with
the time of its first STATUS and that of the RESUME it waits on (R130). -/
inductive OpStage where
  | waking (since : Nat)
  | reading
  | writeEnable
  | polling (since : Nat)
  | settling (first : Nat) (resume : Option Nat)
  deriving DecidableEq, Repr

/-- The operation in progress with its requester (R108). -/
structure LinkOp where
  user : LinkUser
  op : FlashOp
  stage : OpStage
  deriving DecidableEq, Repr

/-- Where an erase stands as to suspension (R119, R120), with the time SUSPEND or RESUME closed. -/
inductive EraseProgress where
  | running
  | suspending (since : Nat)
  | suspended
  | resuming (since : Nat)
  deriving DecidableEq, Repr

/-- The erase record (R108): sector, accrued running time, time of the last start or resume, suspended or not; with the
requester that the outcome goes to. -/
structure EraseRecord where
  sector : Nat
  user : LinkUser
  accrued : Nat
  since : Nat
  progress : EraseProgress
  deriving DecidableEq, Repr

/-- The priority levels at which a request can stand outstanding (R114), highest first. -/
inductive Level where
  | hostRead | commit | eraseJournal | erase
  deriving DecidableEq, Repr

/-- The outstanding requests, at most one per priority level (R114). Mount priority has no field: a mount request is
granted in the step that makes it (R168), so none is ever left outstanding. -/
structure Requests where
  hostRead : Option Run
  commit : Option (LinkUser × FlashOp)
  eraseJournal : Option FlashOp
  erase : Bool
  deriving DecidableEq, Repr

/-- What the bridge drives on the link: the commands of R106 with their address (a physical byte address) and data, the
bytes a READ clocks in, an open READ continued (R123), and the raising of LSELn that closes one (R124). `poll` is STATUS
issued one or more times until the awaited flags show (R111, R119, R120, R130). -/
inductive LinkEvent where
  | identify
  | status
  | poll
  | enableWrite
  | read (addr len : Nat)
  | continueRead (len : Nat)
  | closeStream
  | program (addr : Nat) (data : List Byte)
  | erase (addr : Nat)
  | suspend
  | resume
  | powerDown
  | powerUp
  deriving DecidableEq, Repr

/-- The flash link controller's record (R108). -/
structure Link where
  power : PowerState
  op : Option LinkOp
  erasing : Option EraseRecord
  requests : Requests
  /-- The outstanding request that the arbiter has granted and LINK_GRANT is to begin (R115; log entry 10). -/
  granted : Option Level
  /-- The read stream: closed, or open with its next physical address. -/
  stream : Option Nat
  /-- The doze count: stopped, or running since a time. -/
  doze : Option Nat
  deriving DecidableEq, Repr

/-! ## Host port and read service (chapters 7 and 2.7) -/

/-- A data lane: HAD[7:0] or HAD[15:8]. -/
inductive Lane where
  | low | high
  deriving DecidableEq, Repr

/-- One byte of a cycle: its lane, its logical address, and the data captured for it when the cycle is a write. -/
structure CycleByte where
  lane : Lane
  addr : LogAddr
  data : Byte
  deriving DecidableEq, Repr

/-- The conditions of the cycle record (chapter 7.8) but for "no cycle" (absence of the record) and "deciding" (inside one
step only). -/
inductive CycleCond where
  | heldForMount | writeWaiting | readWaiting | answered | answeredError
  deriving DecidableEq, Repr

/-- The record of the cycle in progress (chapter 7.8): latched address, direction, bytes with their lanes and captured
data, wait start, ready-hold limit, condition; and for a read the values the slot layers gave at presentation (R37). -/
structure Cycle where
  addr : LogAddr
  isRead : Bool
  bytes : List CycleByte
  waitStart : Nat
  limit : Nat
  cond : CycleCond
  taken : List (Option Byte)
  deriving DecidableEq, Repr

/-- The host port: latched address and cycle record, and its output pins. A pin's Bool is its level; a lane the port does
not drive is `none`. -/
structure HostPort where
  latched : LogAddr
  cycle : Option Cycle
  hwaitn : Bool
  hfailn : Bool
  hadLow : Option Byte
  hadHigh : Option Byte
  deriving DecidableEq, Repr

/-! ## Mode controller (chapter 9) and configuration values (chapter 10) -/

/-- The seven operating modes (R164). -/
inductive Mode where
  | mounting | ready | readOnly | drain | halted | formatting | fault
  deriving DecidableEq, Repr

/-- The steps of the mount record (R168). -/
inductive MountStep where
  | wake | settle | identify | scan | load | replay | opening | install | evaluate | record
  deriving DecidableEq, Repr

/-- An entry of the head table (R168). -/
inductive HeadClass where
  | blank
  | valid (sequence : Nat)
  | notHead
  deriving DecidableEq, Repr

/-- How far a format has come (R179, R180): the erase of a journal sector, the read of position 0 of one that failed, the
void of its head, the erase of a data sector, the format opening. -/
inductive FormatStage where
  | eraseJournal (sector : Nat)
  | readFailed (sector : Nat)
  | voidProgram (sector : Nat)
  | voidCheck (sector : Nat)
  | eraseData (sector : Nat)
  | opening
  deriving DecidableEq, Repr

/-- The mount record (R168). The last five fields are how the model holds the sequence's place between two of its link
operations: the journal sector being read and the bytes of it read so far (R170, R171, R176), the append position found
in the loaded sector (R74), whether a mount opening has failed and whether its void left a valid head (R175), and the
place in a format. -/
structure MountRecord where
  step : MountStep
  heads : Vector HeadClass Config.journalSectors
  newest : Option Nat
  loaded : Option Nat
  workMap : List Nat
  workRetired : List Nat
  workUsable : Vector Bool Config.journalSectors
  reading : Nat
  image : List Byte
  loadedAppend : Nat
  format : Option FormatStage
  deriving DecidableEq, Repr

/-- The mode controller (R164, R165, R155, R167, R168). -/
structure ModeControl where
  mode : Mode
  degraded : Bool
  /-- The power-warning level: `true` is asserted. -/
  powerWarning : Bool
  wide : Bool
  fmt : Bool
  svc : Bool
  mount : Option MountRecord
  /-- RSTn is held low (R148). -/
  rstnLow : Bool
  /-- The internal reset after power-on is running (R164). -/
  internalReset : Bool
  deriving DecidableEq, Repr

/-- The values in force (R185, R189): what the mount took from the configuration record. Each present protected range is
its first and last sector (R187). -/
structure Values where
  inPlaceAllowed : Bool
  verify : Bool
  quietMs : Nat
  holdMs : Nat
  readyHold : Nat
  dozeMs : Nat
  lowWater : Nat
  guard : Nat
  ranges : List (Nat × Nat)
  lock : Bool
  deriving DecidableEq, Repr

/-! ## The state -/

/-- The whole state of the bridge. `now` is the 1 µs timebase; `heldRun` is the read service's run held back behind a
committed run whose cycle has ended (R117); `wire` is all that the bridge has driven on the link, oldest first (the
model's own record of an output); `pending` is the queue of commands, first in first out. -/
structure State where
  now : Nat
  port : HostPort
  staging : Staging
  heldRun : Option Run
  timer : SealTimer
  engine : CommitEngine
  tables : Tables
  journal : Journal
  pool : SparePool
  link : Link
  ctl : ModeControl
  values : Values
  wire : List LinkEvent
  pending : List Instr
  deriving DecidableEq, Repr

/-- No command of the bridge ends in a fault of the machine: what the manual calls a link fault is a mode of the bridge
(FAULT, R166), reached by a next state. The type has no constructor. -/
inductive Fault where
  deriving DecidableEq, Repr

/-- Reasons a command is refused. -/
inductive Refusal where
  /-- Raised by `exec` alone, for a command the model gives no meaning yet; safe (nothing runs). No arm raises it. -/
  | notModelled (mnemonic : String)
  deriving DecidableEq, Repr

/-! ## Reset -/

/-- A FREE slot with nothing written (R40); its data bytes at the value log entry 4 names. -/
def Slot.empty : Slot :=
  { state := .free, page := none, data := Vector.replicate _ 0, written := Vector.replicate _ false, rank := none }

/-- The defaults of R184, in force when the record is invalid; also what the values read as before the first mount
(log entry 5). -/
def Values.default : Values :=
  { inPlaceAllowed := true, verify := true, quietMs := 50, holdMs := 1000, readyHold := 500, dozeMs := 0, lowWater := 2,
    guard := 1000, ranges := [], lock := false }

/-- A data sector's record with no state (R9). -/
def SectorRecord.empty : SectorRecord :=
  { state := none, owner := none, retirePending := false, usable := false }

/-- A journal sector's record after reset (R9); its undetermined usable flag at the value log entry 6 names. -/
def SectorRecord.journalReset : SectorRecord :=
  { SectorRecord.empty with state := some .journal }

/-- The sector map and table after reset and in FAULT (R5, R9). -/
def Tables.reset : Tables :=
  { map := Vector.replicate _ none
    sector := Vector.replicate 8 SectorRecord.journalReset ++ Vector.replicate 504 SectorRecord.empty }

/-- The staging buffer after reset (R40). -/
def Staging.reset : Staging :=
  { slots := Vector.replicate _ .empty, queue := [], waiting := none }

/-- The seal timer after reset (R149). -/
def SealTimer.stopped : SealTimer :=
  { quiet := none, hold := none }

/-- The map journal after reset (R69). -/
def Journal.reset : Journal :=
  { active := none, previous := none, sequence := none, appendPos := none, pendingErase := Vector.replicate _ false,
    requests := [], activity := .idle, opening := none }

/-- The commit engine after reset: idle (R43); its work page at the value log entry 7 names. -/
def CommitEngine.reset : CommitEngine :=
  { job := none, workPage := List.replicate Config.pageBytes 0 }

/-- The spare pool and erase engine after reset (R89, R94). -/
def SparePool.reset : SparePool :=
  { spares := [], eraser := .idle }

/-- No request outstanding (R108). -/
def Requests.empty : Requests :=
  { hostRead := none, commit := none, eraseJournal := none, erase := false }

/-- The flash link controller's record after reset (R108). -/
def Link.reset : Link :=
  { power := .unknown, op := none, erasing := none, requests := .empty, granted := none, stream := none, doze := none }

/-- The host port after reset (R148). -/
def HostPort.reset : HostPort :=
  { latched := 0, cycle := none, hwaitn := true, hfailn := true, hadLow := none, hadHigh := none }

/-- The mode controller while RSTn is low (R164, R165, R168): MOUNTING with no mount record yet; the straps and the
power-warning level, sampled at the release, at the values log entry 8 names. -/
def ModeControl.reset : ModeControl :=
  { mode := .mounting, degraded := false, powerWarning := false, wide := false, fmt := false, svc := false,
    mount := none, rstnLow := true, internalReset := false }

/-- The bridge right after reset: RSTn taken low, every block at its reset value. -/
def State.reset : State :=
  { now := 0, port := .reset, staging := .reset, heldRun := none, timer := .stopped, engine := .reset, tables := .reset,
    journal := .reset, pool := .reset, link := .reset, ctl := .reset, values := .default, wire := [], pending := [] }

end Sys2Proof.Machine
end

