-- ==== Sys2Proof/Machine/Operands.lean ====
section
/-! DEFINITION. Operands.lean: how a command's operands are read: the parts of a logical address (R1), a physical address
(R2), the bytes and lanes of a cycle (R134, R135), the status byte (R107, R198), and the bytes a link command carries
(R105, R198, R199). -/

namespace Sys2Proof.Machine

/-! ## Addresses -/

/-- The logical sector number of an address (R1). -/
def logicalSectorOf (a : LogAddr) : Nat :=
  a.toNat / 4096

/-- The logical page number of an address (R1). -/
def pageOf (a : LogAddr) : Nat :=
  a.toNat / 256

/-- The byte offset of an address within its page (R1). -/
def offsetOf (a : LogAddr) : Nat :=
  a.toNat % 256

/-- The logical sector of a page (R1, R18). -/
def sectorOfPage (page : Nat) : Nat :=
  page / 16

/-- The page within its sector of a logical page (R1, R18). -/
def pageInSector (page : Nat) : Nat :=
  page % 16

/-- A physical byte address: sector times 4096, plus page times 256, plus offset (R2). -/
def physAddr (sector page offset : Nat) : Nat :=
  sector * 4096 + page * 256 + offset

/-- The address of journal position q of Jj (R70). -/
def positionAddr (j q : Nat) : Nat :=
  j * 4096 + q * 16

/-- Bytes of the flash device; an open READ wraps there (R122). -/
def flashBytes : Nat :=
  2097152

/-! ## Cycles -/

/-- The low and high halves of HAD. -/
def hadByte (had : BitVec 16) : Lane → Byte
  | .low => had.extractLsb' 0 8
  | .high => had.extractLsb' 8 8

/-- One byte of a cycle with the data on its lane. -/
def cycleByte (had : BitVec 16) (lane : Lane) (a : LogAddr) : CycleByte :=
  { lane := lane, addr := a, data := hadByte had lane }

/-- The bytes of a cycle with their lanes: one byte on the low lane in an 8-bit port (R134), and R135's table, by A0 and
HLANEn, in a 16-bit port. -/
def cycleBytes (wide hlanen : Bool) (a : LogAddr) (had : BitVec 16) : List CycleByte :=
  if wide then
    match a.getLsbD 0, hlanen with
    | false, false => [cycleByte had .low a, cycleByte had .high (a + 1)]
    | false, true => [cycleByte had .low a]
    | true, false => [cycleByte had .high a]
    | true, true => []
  else
    [cycleByte had .low a]

/-- The write a cycle presents (R21, R143): the page of its bytes, with each byte's offset and value. -/
def pageWriteOf (addr : LogAddr) (bytes : List CycleByte) : PageWrite :=
  { page := pageOf addr, bytes := bytes.map fun b => (offsetOf b.addr, b.data) }

/-- A byte at a logical address of the configuration record, 0x00000 to 0x0003F (R139). -/
def inRecord (a : LogAddr) : Bool :=
  a.toNat ≤ 0x3F

/-! ## Status byte -/

/-- BUSY, status bit 0 (R198). -/
def busyFlag (st : Byte) : Bool :=
  st.getLsbD 0

/-- WEL, status bit 1 (R198). -/
def welFlag (st : Byte) : Bool :=
  st.getLsbD 1

/-- SUSP, status bit 2 (R198). -/
def suspFlag (st : Byte) : Bool :=
  st.getLsbD 2

/-- FAIL, status bit 3 (R198). -/
def failFlag (st : Byte) : Bool :=
  st.getLsbD 3

/-! ## Bytes on the link -/

/-- The three address bytes, most significant first, the address in the low 21 bits (R199). -/
def addressBytes (addr : Nat) : List Byte :=
  [BitVec.ofNat 8 (addr % flashBytes / 65536), BitVec.ofNat 8 (addr / 256), BitVec.ofNat 8 addr]

/-- The bytes that the bridge drives on LDO for a link event: command code, address bytes, data bytes (R105, R198). A
continued READ and the raising of LSELn drive none. -/
def linkBytes : LinkEvent → List Byte
  | .identify => [0xA1]
  | .status => [0x51]
  | .poll => [0x51]
  | .enableWrite => [0x5A]
  | .read addr _ => 0x0D :: addressBytes addr
  | .continueRead _ => []
  | .closeStream => []
  | .program addr data => 0x2C :: (addressBytes addr ++ data)
  | .erase addr => 0xE4 :: addressBytes addr
  | .suspend => [0x7B]
  | .resume => [0x7D]
  | .powerDown => [0xD0]
  | .powerUp => [0xD1]

/-- The bits of a byte in the order in which the link carries them, most significant first (R105). -/
def byteBits (b : Byte) : List Bool :=
  (List.range 8).map b.getMsbD

/-- The levels that LDO takes at the clock pulses of a link event, one for each bit (R105). -/
def linkBits (e : LinkEvent) : List Bool :=
  (linkBytes e).flatMap byteBits

/-- The byte that eight levels of LDI spell, the first the most significant (R105): how the link reads the bytes that the commands
bring. -/
def byteOfBits (bits : List Bool) : Byte :=
  bits.foldl (fun b x => (b <<< 1) ||| (BitVec.ofBool x).setWidth 8) 0

end Sys2Proof.Machine
end

