-- ==== Sys2Proof/Machine/Flags.lean ====
section
/-! DEFINITION. Flags.lean: what the blocks read of one another: slots found by page, counts, sector records, the outputs
CLEAN and MODE[2:0], and the conditions under which a block acts. Nothing here changes the state. -/

namespace Sys2Proof.Machine

/-! ## Slots -/

/-- Slot i; a number above 15 names no slot and reads as an empty one. -/
def Staging.slot (g : Staging) (i : Nat) : Slot :=
  (g.slots[i]?).getD .empty

/-- The slot numbers, 0 to 15. -/
def slotNumbers : List Nat :=
  List.range Config.slotCount

/-- FILLING or SEALED: open to host writes, first layer of reads (R19). -/
def Slot.isOpen (x : Slot) : Bool :=
  x.state == .filling || x.state == .sealed

/-- The page's FILLING or SEALED slot (R20). -/
def Staging.openSlot (g : Staging) (page : Nat) : Option Nat :=
  slotNumbers.find? fun i => (g.slot i).isOpen && (g.slot i).page == some page

/-- The page's COMMITTING slot (R20). -/
def Staging.committingSlot (g : Staging) (page : Nat) : Option Nat :=
  slotNumbers.find? fun i => (g.slot i).state == .committing && (g.slot i).page == some page

/-- The lowest-numbered FREE slot (R23). -/
def Staging.lowestFree (g : Staging) : Option Nat :=
  slotNumbers.find? fun i => (g.slot i).state == .free

/-- How many slots are in a state. -/
def Staging.count (g : Staging) (st : SlotState) : Nat :=
  slotNumbers.countP fun i => (g.slot i).state == st

/-- All sixteen slots are FREE (R39). -/
def Staging.allFree (g : Staging) : Bool :=
  slotNumbers.all fun i => (g.slot i).state == .free

/-- The FILLING slots in rank order, oldest first (R18, R29). -/
def Staging.fillingInOrder (g : Staging) : List Nat :=
  (slotNumbers.filter fun i => (g.slot i).state == .filling).insertionSort
    fun i j => (g.slot i).rank.getD 0 ≤ (g.slot j).rank.getD 0

/-- The byte a slot holds at an offset, when its written-map flag is set there (R18). -/
def Slot.byte (x : Slot) (offset : Nat) : Option Byte :=
  if (x.written[offset]?).getD false then x.data[offset]? else none

/-- The value the two slot layers give for a byte of a page: the open slot's, failing that the COMMITTING slot's (R36). -/
def Staging.layeredByte (g : Staging) (page offset : Nat) : Option Byte :=
  match (g.openSlot page).bind fun i => (g.slot i).byte offset with
  | some v => some v
  | none => (g.committingSlot page).bind fun i => (g.slot i).byte offset

/-! ## Sector records -/

/-- The record of physical sector p; a number above 511 names no sector and reads as a record with no state. -/
def Tables.record (t : Tables) (p : Nat) : SectorRecord :=
  (t.sector[p]?).getD .empty

/-- The map entry of logical sector l (R3). -/
def Tables.entry (t : Tables) (l : Nat) : Option Nat :=
  (t.map[l]?).getD none

/-- The physical sector numbers, 0 to 511. -/
def sectorNumbers : List Nat :=
  List.range Config.physicalSectors

/-- The RETIRED sectors in ascending order; their number is the retired count (R7, R73). -/
def Tables.retiredSectors (t : Tables) : List Nat :=
  sectorNumbers.filter fun p => (t.record p).state == some .retired

/-- The retired count (R7). After reset and in FAULT, where R9 calls it unknown, it reads 0 here, since no record is RETIRED then
(log entry 29). -/
def Tables.retiredCount (t : Tables) : Nat :=
  t.retiredSectors.length

/-- The number of sectors retire pending (R8). -/
def Tables.pendingCount (t : Tables) : Nat :=
  sectorNumbers.countP fun p => (t.record p).retirePending

/-- The map entries as numbers, in logical order; an absent entry (none while the map is in force, R3) reads as 0. -/
def Tables.mapList (t : Tables) : List Nat :=
  t.map.toList.map fun e => e.getD 0

/-- The usable flag of Jj (R6). -/
def Tables.usable (t : Tables) (j : Nat) : Bool :=
  (t.record j).usable

/-- The usable flags together (R67). -/
def Tables.usableFlags (t : Tables) : Vector Bool Config.journalSectors :=
  #v[t.usable 0, t.usable 1, t.usable 2, t.usable 3, t.usable 4, t.usable 5, t.usable 6, t.usable 7]

/-- Flag j of a flag per journal sector. -/
def flagAt (v : Vector Bool Config.journalSectors) (j : Nat) : Bool :=
  (v[j]?).getD false

/-- The number of usable journal sectors (R83). -/
def usableCount (v : Vector Bool Config.journalSectors) : Nat :=
  (List.range Config.journalSectors).countP (flagAt v)

/-- The seven sectors after Jj in ring order (R68). -/
def ringAfter (j : Nat) : List Nat :=
  (List.range 7).map fun i => (j + 1 + i) % 8

/-- The next usable sector after Jj (R68). -/
def nextUsable (v : Vector Bool Config.journalSectors) (j : Nat) : Option Nat :=
  (ringAfter j).find? (flagAt v)

/-! ## The spare list -/

/-- An entry is eligible when its retire pending flag is clear (R90). -/
def Tables.eligible (t : Tables) (p : Nat) : Bool :=
  !(t.record p).retirePending

/-- The first eligible SPARE_CLEAN entry in list order (R90). -/
def State.firstClean (s : State) : Option Nat :=
  s.pool.spares.find? fun p => (s.tables.record p).state == some .spareClean && s.tables.eligible p

/-- The first eligible SPARE_DIRTY entry in list order (R90, R96). -/
def State.firstDirty (s : State) : Option Nat :=
  s.pool.spares.find? fun p => (s.tables.record p).state == some .spareDirty && s.tables.eligible p

/-- The stale sector the journal offers for erase: the first after the active one in ring order that is usable and has its
pending erase flag set (R84). -/
def State.staleOffer (s : State) : Option Nat :=
  match s.journal.active with
  | some a => (ringAfter a).find? fun j => s.tables.usable j && flagAt s.journal.pendingErase j
  | none => none

/-- The erase engine has work (R95). -/
def State.eraseWork (s : State) : Bool :=
  (List.range Config.journalSectors).any (fun j => s.tables.usable j && flagAt s.journal.pendingErase j)
    || s.firstDirty.isSome

/-- The erase engine may ask for a turn: idle, in READY, with work (R95). -/
def State.turnDue (s : State) : Bool :=
  s.pool.eraser == .idle && s.ctl.mode == .ready && s.eraseWork

/-- Erase work outstanding, as the erase engine reports it (R101). -/
def State.eraseOutstanding (s : State) : Bool :=
  s.pool.eraser != .idle || (s.ctl.mode == .ready && s.eraseWork)

/-! ## Modes and outputs -/

/-- The code of a mode on MODE[2:0] (R164). -/
def Mode.code : Mode → BitVec 3
  | .mounting => 0b000
  | .ready => 0b001
  | .readOnly => 0b010
  | .drain => 0b011
  | .halted => 0b100
  | .formatting => 0b101
  | .fault => 0b111

/-- The map is in force (R3, R164). -/
def Mode.inForce : Mode → Bool
  | .ready => true
  | .readOnly => true
  | .drain => true
  | .halted => true
  | .mounting => false
  | .formatting => false
  | .fault => false

/-- MOUNTING or FORMATTING. -/
def Mode.isMount : Mode → Bool
  | .mounting => true
  | .formatting => true
  | .ready => false
  | .readOnly => false
  | .drain => false
  | .halted => false
  | .fault => false

/-- The MODE[2:0] output (R164). -/
def State.modePins (s : State) : BitVec 3 :=
  s.ctl.mode.code

/-- The CLEAN output (R162). -/
def State.clean (s : State) : Bool :=
  s.ctl.mode.inForce && s.staging.allFree

/-- A read or an identify is clocking its bytes in (R105). -/
def Link.clocking (k : Link) : Bool :=
  (k.op.map (·.stage)) == some OpStage.reading

/-- The LSELn output: low while a read stream is open or a read is clocking bytes in (R105, R122). -/
def State.lseln (s : State) : Bool :=
  !(s.link.stream.isSome || s.link.clocking)

/-- The LSCK output: running (`none`) while a read clocks bytes in, else at rest, low (R105, R131; log entry 12). -/
def State.lsck (s : State) : Option Bool :=
  if s.link.clocking then none else some false

/-- RSTn is low or the internal reset is running: no pin event is taken (R148, R154, R155). -/
def State.inReset (s : State) : Bool :=
  s.ctl.rstnLow || s.ctl.internalReset

/-- The drain is finished: every slot FREE and the commit engine idle (R157). -/
def State.drained (s : State) : Bool :=
  s.staging.allFree && s.engine.job.isNone

/-- A protected sector: it lies in a present range (R140, R187). -/
def Values.isProtected (v : Values) (sector : Nat) : Bool :=
  v.ranges.any fun r => r.1 ≤ sector && sector ≤ r.2

/-! ## The host cycle -/

/-- The port holds the cycle: HWAITn low (R133, chapter 7.8). -/
def CycleCond.held : CycleCond → Bool
  | .heldForMount => true
  | .writeWaiting => true
  | .readWaiting => true
  | .answered => false
  | .answeredError => false

/-! ## The link -/

/-- The erase is suspended (R119). -/
def Link.suspended (k : Link) : Bool :=
  match k.erasing with
  | some e => e.progress == .suspended
  | none => false

/-- The link is free: no operation in progress and no erase suspended (R115). -/
def Link.free (k : Link) : Bool :=
  k.op.isNone && !k.suspended

/-- No request is outstanding (R126, R129). -/
def Link.quiet (k : Link) : Bool :=
  k.requests == .empty

/-- A request is outstanding at a level (R114). -/
def Requests.holds (r : Requests) : Level → Bool
  | .hostRead => r.hostRead.isSome
  | .commit => r.commit.isSome
  | .eraseJournal => r.eraseJournal.isSome
  | .erase => r.erase

/-- A level stands above another: the order of R114. -/
def Level.above : Level → Level → Bool
  | .hostRead, l => l != .hostRead
  | .commit, l => l == .eraseJournal || l == .erase
  | .eraseJournal, l => l == .erase
  | .erase, _ => false

/-- The requester of a journal request; an opening to record a withdrawal is the erase engine's (R84). -/
def JournalRequest.requester : JournalRequest → Requester
  | .append who _ => who
  | .record _ => .eraseEngine

/-- The requester of the request that an idle journal has to begin (R75). -/
def Journal.dueFor (j : Journal) : Option Requester :=
  if j.activity = .idle then j.requests.head?.map JournalRequest.requester else none

/-- The engine may ask for a take: idle, in READY or DRAIN (R45). -/
def State.mayTake (s : State) : Bool :=
  s.engine.job.isNone && (s.ctl.mode == .ready || s.ctl.mode == .drain)

/-- A take will be granted to the engine: it may ask for one and the commit queue is not empty (R45, R31). -/
def State.takeDue (s : State) : Bool :=
  s.mayTake && !s.staging.queue.isEmpty

/-- A step that is due, a take or the begin of a journal request, will stand at a level (R45, R75, R114); until it comes no lower
level is granted (R115; log entry 10). -/
def State.dueAt (s : State) : Level → Bool
  | .hostRead => false
  | .commit => s.takeDue || s.journal.dueFor == some .commitEngine
  | .eraseJournal => s.journal.dueFor == some .eraseEngine
  | .erase => false

/-- The request first in line on a free link (R114, R115): the one outstanding at the highest level, unless a step that is due will
stand above it. -/
def State.firstInLine (s : State) : Option Level :=
  ([.hostRead, .commit, .eraseJournal, .erase].find? fun l => s.link.requests.holds l || s.dueAt l).filter
    s.link.requests.holds

/-- The request the arbiter's grant goes to, at the end of a step (R115): with an operation in progress none; a grant made stands
while its request does; else the first in line, within a suspension a host read run only (R120). -/
def State.award (s : State) : Option Level :=
  if s.link.op.isSome then none
  else if s.link.granted.any s.link.requests.holds then s.link.granted
  else if s.link.suspended then (if s.link.requests.hostRead.isSome then some .hostRead else none)
  else s.firstInLine

/-- The running time of an erase at a time (R111). -/
def EraseRecord.runningTime (e : EraseRecord) (now : Nat) : Nat :=
  e.accrued + (now - e.since)

/-- The map journal is idle with no request in its list (R126, R129). -/
def Journal.atRest (j : Journal) : Bool :=
  j.activity == .idle && j.requests.isEmpty

/-- All the conditions under which the doze count runs (R126). -/
def State.mayDoze (s : State) : Bool :=
  (s.ctl.mode == .ready || s.ctl.mode == .readOnly)
    && s.values.dozeMs != 0
    && s.port.cycle.isNone
    && s.staging.allFree
    && s.engine.job.isNone
    && !s.eraseOutstanding
    && s.journal.atRest
    && s.link.free && s.link.quiet
    && s.link.power == .awake

/-- All the conditions under which the flash is powered down for HALTED (R129). -/
def State.mayPowerDown (s : State) : Bool :=
  s.ctl.mode == .halted
    && s.engine.job.isNone
    && s.pool.eraser == .idle
    && s.journal.atRest
    && s.link.free && s.link.quiet
    && s.link.power == .awake

end Sys2Proof.Machine
end

