-- ==== Sys2Proof/Machine/Formats.lean ====
section
/-! DEFINITION. Formats.lean: the check value (R193), journal entries written and read (R70 to R74, R194, R195) and the
configuration record (R184 to R188, R196, R197). -/

namespace Sys2Proof.Machine

/-! ## The check value -/

/-- One place of the CRC-16 register (R193). -/
def crcShift (r : BitVec 16) : BitVec 16 :=
  if r.msb then (r <<< 1) ^^^ 0x1021 else r <<< 1

/-- One byte taken into the CRC-16 register: combined into the high eight bits, then eight shifts (R193). -/
def crcByte (r : BitVec 16) (b : Byte) : BitVec 16 :=
  crcShift^[8] (r ^^^ (b.setWidth 16 <<< 8))

/-- CRC-16 of the bytes in ascending address order, from 0xFFFF (R193). -/
def crc16 (bytes : List Byte) : BitVec 16 :=
  bytes.foldl crcByte 0xFFFF

/-- A two-byte number, least significant byte first (R194). -/
def le16 (n : Nat) : List Byte :=
  [BitVec.ofNat 8 n, BitVec.ofNat 8 (n / 256)]

/-- A four-byte number, least significant byte first (R194). -/
def le32 (n : Nat) : List Byte :=
  [BitVec.ofNat 8 n, BitVec.ofNat 8 (n / 256), BitVec.ofNat 8 (n / 65536), BitVec.ofNat 8 (n / 16777216)]

/-- Byte k of a run of bytes, as a number. -/
def byteAt (bytes : List Byte) (k : Nat) : Nat :=
  (bytes.getD k 0).toNat

/-- The two-byte number at byte k. -/
def wordAt (bytes : List Byte) (k : Nat) : Nat :=
  byteAt bytes k + 256 * byteAt bytes (k + 1)

/-- The four-byte number at byte k. -/
def longAt (bytes : List Byte) (k : Nat) : Nat :=
  wordAt bytes k + 65536 * wordAt bytes (k + 2)

/-- Every byte is 0xFF (00_scope.md, Conventions: blank). -/
def allErased (bytes : List Byte) : Bool :=
  bytes.all (· == 0xFF)

/-! ## Entries written -/

/-- Sixteen bytes of an entry: kind code and payload, unused payload bytes 0x00, check value over the 14 bytes (R195). -/
def entryImage (body : List Byte) : List Byte :=
  let covered := body ++ List.replicate (14 - body.length) 0
  covered ++ le16 (crc16 covered).toNat

/-- The usable flags byte: bit j for Jj, one meaning usable (R194). -/
def usableByte (usable : Vector Bool Config.journalSectors) : Byte :=
  BitVec.ofNat 8 ((List.range 8).foldl (fun n j => n + if (usable[j]?).getD false then 2 ^ j else 0) 0)

/-- The flags of a usable flags byte (R194). -/
def usableOfByte (b : Nat) : Vector Bool Config.journalSectors :=
  #v[b.testBit 0, b.testBit 1, b.testBit 2, b.testBit 3, b.testBit 4, b.testBit 5, b.testBit 6, b.testBit 7]

/-- HEAD (R194). -/
def headImage (sequence ring : Nat) : List Byte :=
  entryImage (0xA5 :: (le32 sequence ++ [BitVec.ofNat 8 ring]))

/-- CKPT_BEGIN (R194). -/
def beginImage (sequence count : Nat) (usable : Vector Bool Config.journalSectors) : List Byte :=
  entryImage (0xC1 :: (le32 sequence ++ [BitVec.ofNat 8 count, usableByte usable]))

/-- CKPT_MAP of the four logical sectors from `first` (R194). -/
def mapImage (map : List Nat) (first : Nat) : List Byte :=
  entryImage (0xC2 :: BitVec.ofNat 8 first :: (List.range 4).flatMap fun i => le16 (map.getD (first + i) 0))

/-- CKPT_RETIRED naming the sectors given, at most six (R194). -/
def retiredImage (sectors : List Nat) : List Byte :=
  entryImage (0xC3 :: BitVec.ofNat 8 sectors.length :: sectors.flatMap le16)

/-- CKPT_END (R194). -/
def endImage (count : Nat) : List Byte :=
  entryImage [0xC4, BitVec.ofNat 8 count]

/-- Cause byte of a REMAP (R194). -/
def RemapCause.code : RemapCause → Byte
  | .ordinary => 0x00
  | .inPlaceFailed => 0x01

/-- Cause byte of a RETIRE (R194). -/
def RetireCause.code : RetireCause → Byte
  | .programFail => 0x01
  | .verifyFail => 0x02
  | .eraseFail => 0x03

/-- REMAP and RETIRE (R194). -/
def payloadImage : Payload → List Byte
  | .remap l new old cause => entryImage (0x3C :: BitVec.ofNat 8 l :: (le16 new ++ le16 old ++ [cause.code]))
  | .retire p cause => entryImage (0x5E :: (le16 p ++ [cause.code]))

/-- r, the number of CKPT_RETIRED entries for c retired sectors: c divided by 6, rounded up (R73). -/
def retiredEntries (c : Nat) : Nat :=
  (c + 5) / 6

/-- The entries of positions 1 to 66 + r: the checkpoint of R73, for the retired sectors in ascending order. -/
def checkpointImages (sequence : Nat) (retired map : List Nat) (usable : Vector Bool Config.journalSectors) :
    List (List Byte) :=
  let r := retiredEntries retired.length
  beginImage sequence retired.length usable
    :: ((List.range 64).map fun i => mapImage map (4 * i))
    ++ ((List.range r).map fun i => retiredImage ((retired.drop (6 * i)).take 6))
    ++ [endImage (64 + r)]

/-! ## Entries read -/

/-- A valid entry as the bridge reads it: only the fields R195 says it reads. -/
inductive Entry where
  | head (sequence ring : Nat)
  | ckptBegin (sequence count usable : Nat)
  | ckptMap (first : Nat) (sectors : List Nat)
  | ckptRetired (count : Nat) (slots : List Nat)
  | ckptEnd (count : Nat)
  | remap (logical new old : Nat)
  | retire (sector : Nat)
  deriving DecidableEq, Repr

/-- The three classes of a position (R70). -/
inductive PositionClass where
  | blank
  | valid (entry : Entry)
  | torn
  deriving DecidableEq, Repr

/-- The entry that sixteen bytes spell by their kind code (R194), if the code is one of the seven. -/
def entryOf (b : List Byte) : Option Entry :=
  match byteAt b 0 with
  | 0xA5 => some (.head (longAt b 1) (byteAt b 5))
  | 0xC1 => some (.ckptBegin (longAt b 1) (byteAt b 5) (byteAt b 6))
  | 0xC2 => some (.ckptMap (byteAt b 1) [wordAt b 2, wordAt b 4, wordAt b 6, wordAt b 8])
  | 0xC3 => some (.ckptRetired (byteAt b 1) [wordAt b 2, wordAt b 4, wordAt b 6, wordAt b 8, wordAt b 10, wordAt b 12])
  | 0xC4 => some (.ckptEnd (byteAt b 1))
  | 0x3C => some (.remap (byteAt b 1) (wordAt b 2) (wordAt b 4))
  | 0x5E => some (.retire (wordAt b 1))
  | _ => none

/-- The class of a position's sixteen bytes, tested in the order of R70. -/
def classOf (b : List Byte) : PositionClass :=
  if allErased b then .blank
  else if wordAt b 14 = (crc16 (b.take 14)).toNat then
    match entryOf b with
    | some e => .valid e
    | none => .torn
  else .torn

/-- The valid head that the bytes of position 0 of Jj hold, as its sequence number (R72). -/
def validHead (j : Nat) (b : List Byte) : Option Nat :=
  match classOf b with
  | .valid (.head sequence ring) =>
    if sequence ≠ 0 ∧ sequence ≠ 0xFFFFFFFF ∧ ring = j then some sequence else none
  | _ => none

/-- The head table entry for position 0 of Jj (R170). -/
def headClassOf (j : Nat) (b : List Byte) : HeadClass :=
  match classOf b, validHead j b with
  | .blank, _ => .blank
  | _, some sequence => .valid sequence
  | _, none => .notHead

/-- The sixteen bytes of position q of a journal sector's 4096 bytes (R70). -/
def positionBytes (image : List Byte) (q : Nat) : List Byte :=
  (image.drop (16 * q)).take 16

/-- The append position mount installs: the first blank position after the last non-blank one, 256 when position 255 is
not blank (R74). -/
def appendPositionOf (image : List Byte) : Nat :=
  (List.range 256).foldl (fun n q => if classOf (positionBytes image q) = .blank then n else q + 1) 0

/-- A complete checkpoint as mount loads it (R172). -/
structure Checkpoint where
  count : Nat
  usable : Nat
  map : List Nat
  retired : List Nat
  deriving DecidableEq, Repr

/-- The four map entries at CKPT_MAP position i of the 64, if it is the valid entry R73 prescribes there. -/
def ckptMapAt (image : List Byte) (i : Nat) : Option (List Nat) :=
  match classOf (positionBytes image (2 + i)) with
  | .valid (.ckptMap first sectors) => if first = 4 * i then some sectors else none
  | _ => none

/-- The sectors named at CKPT_RETIRED position i of the r entries for c retired sectors, if it is the valid entry R73
prescribes there: six to an entry, except the last. -/
def ckptRetiredAt (image : List Byte) (c i : Nat) : Option (List Nat) :=
  match classOf (positionBytes image (66 + i)) with
  | .valid (.ckptRetired count slots) =>
    if count = min 6 (c - 6 * i) then some (slots.take count) else none
  | _ => none

/-- The checkpoint of a sector whose head carries `headSequence`, when it is complete (R73). -/
def checkpointOf (image : List Byte) (headSequence : Nat) : Option Checkpoint :=
  match classOf (positionBytes image 1) with
  | .valid (.ckptBegin sequence c usable) =>
    let r := retiredEntries c
    match (List.range 64).mapM (ckptMapAt image), (List.range r).mapM (ckptRetiredAt image c),
        classOf (positionBytes image (66 + r)) with
    | some maps, some retired, .valid (.ckptEnd count) =>
      if sequence = headSequence ∧ count = 64 + r then
        some { count := c, usable := usable, map := maps.flatten, retired := retired.flatten }
      else none
    | _, _, _ => none
  | _ => none

/-- A data sector number, 8 to 511 (R2). -/
def isDataSector (p : Nat) : Bool :=
  8 ≤ p && p ≤ 511

/-- The consistency of a complete checkpoint of Jj (R172). -/
def Checkpoint.consistent (k : Checkpoint) (j : Nat) : Bool :=
  k.map.all isDataSector && decide k.map.Nodup
    && k.retired.all (fun p => isDataSector p && !k.map.contains p) && decide k.retired.Nodup
    && k.count ≤ 64 && k.usable.testBit j

/-- The working map and working retired set of a replay. -/
structure WorkTables where
  map : List Nat
  retired : List Nat
  deriving DecidableEq, Repr

/-- One position of the incremental region replayed: passed over when blank or torn, applied when its conditions hold,
`none` for an inconsistency (R173, R174). -/
def replayEntry (w : WorkTables) (c : PositionClass) : Option WorkTables :=
  match c with
  | .blank => some w
  | .torn => some w
  | .valid (.remap l new old) =>
    if w.map[l]? = some old ∧ isDataSector new ∧ new ∉ w.map ∧ new ∉ w.retired ∧ new ≠ old then
      some { w with map := w.map.set l new }
    else none
  | .valid (.retire p) =>
    if isDataSector p ∧ p ∉ w.map then
      if p ∈ w.retired then some w
      else if w.retired.length < 64 then some { w with retired := w.retired ++ [p] }
      else none
    else none
  | .valid _ => none

/-- The incremental region replayed in position order, from 67 + r to 255 (R173). -/
def replay (image : List Byte) (k : Checkpoint) : Option WorkTables :=
  let start := 67 + retiredEntries k.count
  (List.range (256 - start)).foldlM (fun w i => replayEntry w (classOf (positionBytes image (start + i))))
    { map := k.map, retired := k.retired }

/-! ## The configuration record -/

/-- The record is valid (R184). -/
def recordValid (b : List Byte) : Bool :=
  b.take 4 == [0x44, 0x4E, 0x43, 0x31] && byteAt b 4 == 1 && wordAt b 0x3E == (crc16 (b.take 62)).toNat

/-- A field whose value lies outside its range takes its default (R186). -/
def fieldOr (value low high default : Nat) : Nat :=
  if low ≤ value ∧ value ≤ high then value else default

/-- Protected range i of a valid record, when present (R187). -/
def rangeOf (b : List Byte) (i : Nat) : List (Nat × Nat) :=
  let at_ := 0x12 + 3 * i
  if byteAt b at_ = 1 ∧ byteAt b (at_ + 1) ≤ byteAt b (at_ + 2) then [(byteAt b (at_ + 1), byteAt b (at_ + 2))] else []

/-- The values in force that a record gives (R184, R185, R186, R187, R188, R196). -/
def decodeRecord (b : List Byte) : Values :=
  if recordValid b then
    { inPlaceAllowed := fieldOr (byteAt b 5) 0 1 1 == 1
      verify := fieldOr (byteAt b 6) 0 1 1 == 1
      quietMs := wordAt b 0x07
      holdMs := wordAt b 0x09
      readyHold := fieldOr (wordAt b 0x0B) 10 2000 500
      dozeMs := wordAt b 0x0D
      lowWater := fieldOr (byteAt b 0x0F) 1 8 2
      guard := fieldOr (wordAt b 0x10) 100 10000 1000
      ranges := (List.range 4).flatMap (rangeOf b)
      lock := byteAt b 0x1E == 1 }
  else Values.default

end Sys2Proof.Machine
end

