-- ==== Sys2Proof/Machine/Ops.lean ====
section
/-! DEFINITION. Ops.lean: the named updates of the state: one setter per block, the updates of a slot, of a sector record and
of a journal flag, the drive of the link, and the port's ways of ending a cycle. -/

namespace Sys2Proof.Machine

/-! ## One setter per block -/

/-- The host port replaced. -/
def State.withPort (s : State) (x : HostPort) : State :=
  { s with port := x }

/-- The staging buffer replaced. -/
def State.withStaging (s : State) (x : Staging) : State :=
  { s with staging := x }

/-- The read service's held-back run replaced. -/
def State.withHeldRun (s : State) (x : Option Run) : State :=
  { s with heldRun := x }

/-- The seal timer replaced. -/
def State.withTimer (s : State) (x : SealTimer) : State :=
  { s with timer := x }

/-- The commit engine replaced. -/
def State.withEngine (s : State) (x : CommitEngine) : State :=
  { s with engine := x }

/-- The commit engine's job record replaced. -/
def State.withJob (s : State) (x : Option Job) : State :=
  s.withEngine { s.engine with job := x }

/-- The sector map and the physical sector table replaced. -/
def State.withTables (s : State) (x : Tables) : State :=
  { s with tables := x }

/-- The map journal replaced. -/
def State.withJournal (s : State) (x : Journal) : State :=
  { s with journal := x }

/-- The spare pool and erase engine replaced. -/
def State.withPool (s : State) (x : SparePool) : State :=
  { s with pool := x }

/-- The erase engine's activity replaced. -/
def State.withEraser (s : State) (x : EraserActivity) : State :=
  s.withPool { s.pool with eraser := x }

/-- The flash link controller's record replaced. -/
def State.withLink (s : State) (x : Link) : State :=
  { s with link := x }

/-- The mode controller replaced. -/
def State.withCtl (s : State) (x : ModeControl) : State :=
  { s with ctl := x }

/-- The mount record replaced. -/
def State.withMount (s : State) (x : Option MountRecord) : State :=
  s.withCtl { s.ctl with mount := x }

/-- The values in force replaced. -/
def State.withValues (s : State) (x : Values) : State :=
  { s with values := x }

/-- Link events driven, after those driven before. -/
def State.drive (s : State) (es : List LinkEvent) : State :=
  { s with wire := s.wire ++ es }

/-- The queue of commands replaced. -/
def State.withPending (s : State) (q : List Instr) : State :=
  { s with pending := q }

/-! ## Slots -/

/-- Slot i replaced. -/
def Staging.setSlot (g : Staging) (i : Nat) (x : Slot) : Staging :=
  { g with slots := g.slots.setIfInBounds i x }

/-- One byte written into a slot: its data byte and its written-map flag (R22). -/
def Slot.put (x : Slot) (offset : Nat) (v : Byte) : Slot :=
  { x with data := x.data.setIfInBounds offset v, written := x.written.setIfInBounds offset true }

/-- The bytes of a write put into a slot (R22). -/
def Slot.putAll (x : Slot) (bytes : List (Nat × Byte)) : Slot :=
  bytes.foldl (fun y b => y.put b.1 b.2) x

/-- A slot made FREE: page and rank lost, written map cleared, data bytes left (R33, R23). -/
def Slot.freed (x : Slot) : Slot :=
  { x with state := .free, page := none, written := Vector.replicate _ false, rank := none }

/-- A slot allocated: FILLING for a page with a rank, its written map cleared, its data bytes left (R23). -/
def Slot.allocated (x : Slot) (page rank : Nat) : Slot :=
  { x with state := .filling, page := some page, written := Vector.replicate _ false, rank := some rank }

/-- Every rank above r drops by one (R18, R28). -/
def Staging.dropRanksAbove (g : Staging) (r : Nat) : Staging :=
  { g with slots := g.slots.map fun x => { x with rank := x.rank.map fun k => if r < k then k - 1 else k } }

/-- The rank of a slot that leaves FILLING removed from the order (R18). -/
def Staging.closeRank (g : Staging) (rank : Option Nat) : Staging :=
  match rank with
  | some r => g.dropRanksAbove r
  | none => g

/-! ## Sector records, map entries and journal flags -/

/-- The record of physical sector p replaced. -/
def Tables.setRecord (t : Tables) (p : Nat) (r : SectorRecord) : Tables :=
  { t with sector := t.sector.setIfInBounds p r }

/-- The state and owner of sector p changed, its flags left. -/
def Tables.setState (t : Tables) (p : Nat) (st : SectorState) (owner : Option Nat) : Tables :=
  t.setRecord p { t.record p with state := some st, owner := owner }

/-- The retire pending flag of sector p set or cleared (R8). -/
def Tables.setPending (t : Tables) (p : Nat) (b : Bool) : Tables :=
  t.setRecord p { t.record p with retirePending := b }

/-- The usable flag of Jj set or cleared (R15, R67). -/
def Tables.setUsable (t : Tables) (j : Nat) (b : Bool) : Tables :=
  t.setRecord j { t.record j with usable := b }

/-- The map entry of logical sector l replaced (R13). -/
def Tables.setEntry (t : Tables) (l p : Nat) : Tables :=
  { t with map := t.map.setIfInBounds l (some p) }

/-- The pending erase flag of Jj set or cleared (R68). -/
def Journal.setPendingErase (j : Journal) (k : Nat) (b : Bool) : Journal :=
  { j with pendingErase := j.pendingErase.setIfInBounds k b }

/-! ## The seal timer -/

/-- A count with an interval in milliseconds started now; an interval of 0 leaves it stopped (R149, R150). -/
def startCount (intervalMs now : Nat) : Option Nat :=
  if intervalMs = 0 then none else some now

/-- Both counts started (R150). -/
def State.startCounts (s : State) : State :=
  s.withTimer { quiet := startCount s.values.quietMs s.now, hold := startCount s.values.holdMs s.now }

/-- The quiet count restarted at a taken write, if it is running (R151). -/
def State.restartQuiet (s : State) : State :=
  s.withTimer { s.timer with quiet := s.timer.quiet.map fun _ => s.now }

/-- The staging buffer replaced, and both counts stopped when its FILLING count has fallen to 0 by the change (R39,
R152). -/
def State.withStagingReport (s : State) (g : Staging) : State :=
  if s.staging.count .filling ≠ 0 ∧ g.count .filling = 0 then (s.withStaging g).withTimer .stopped
  else s.withStaging g

/-! ## The end of a host cycle -/

/-- The value on a lane of an answered read: the byte the cycle has on that lane, 0xFF where it has none (R136). -/
def laneValue (bytes : List CycleByte) (values : List Byte) (lane : Lane) : Byte :=
  match (bytes.zip values).find? fun p => p.1.lane == lane with
  | some p => p.2
  | none => 0xFF

/-- The condition of the cycle in progress changed. -/
def HostPort.setCond (h : HostPort) (cond : CycleCond) : HostPort :=
  { h with cycle := h.cycle.map fun c => { c with cond := cond } }

/-- The cycle answered normally: HWAITn rises, and a read's lanes are driven (R136, R145). -/
def HostPort.answer (h : HostPort) (wide : Bool) (values : List Byte) : HostPort :=
  match h.cycle with
  | none => h
  | some c =>
    { h with
      cycle := some { c with cond := .answered }
      hwaitn := true
      hadLow := if c.isRead then some (laneValue c.bytes values .low) else h.hadLow
      hadHigh := if c.isRead && wide then some (laneValue c.bytes values .high) else h.hadHigh }

/-- The cycle error-terminated: HFAILn low and HWAITn high in one act, a read's lanes of the port's width all ones
(R145). -/
def HostPort.errorTerminate (h : HostPort) (wide : Bool) : HostPort :=
  match h.cycle with
  | none => h
  | some c =>
    { h with
      cycle := some { c with cond := .answeredError }
      hwaitn := true
      hfailn := false
      hadLow := if c.isRead then some 0xFF else h.hadLow
      hadHigh := if c.isRead && wide then some 0xFF else h.hadHigh }

/-- The data phase over: no cycle, HWAITn and HFAILn high, the lanes released (R133, R145, R146). -/
def HostPort.release (h : HostPort) : HostPort :=
  { h with cycle := none, hwaitn := true, hfailn := true, hadLow := none, hadHigh := none }

/-- The cycle answered normally with the values of its bytes. -/
def State.answer (s : State) (values : List Byte) : State :=
  s.withPort (s.port.answer s.ctl.wide values)

/-- The cycle error-terminated. -/
def State.errorTerminate (s : State) : State :=
  s.withPort (s.port.errorTerminate s.ctl.wide)

/-! ## The link's record -/

/-- The operation in progress replaced. -/
def State.withOp (s : State) (o : Option LinkOp) : State :=
  s.withLink { s.link with op := o }

/-- The erase record replaced. -/
def State.withErasing (s : State) (e : Option EraseRecord) : State :=
  s.withLink { s.link with erasing := e }

/-- The outstanding requests replaced. -/
def State.withRequests (s : State) (r : Requests) : State :=
  s.withLink { s.link with requests := r }

/-- The power state replaced. -/
def State.withPower (s : State) (p : PowerState) : State :=
  s.withLink { s.link with power := p }

/-- An open read stream closed by raising LSELn; a closed one left (R124). -/
def State.closeStream (s : State) : State :=
  match s.link.stream with
  | some _ => (s.withLink { s.link with stream := none }).drive [.closeStream]
  | none => s

/-- The doze count brought into line with its conditions: it starts when the last of them comes to hold, runs on while they
hold, and stops when one ceases to (R126). -/
def State.refreshDoze (s : State) : State :=
  s.withLink { s.link with doze := if s.mayDoze then some (s.link.doze.getD s.now) else none }

/-- The arbiter's decision: the grant recorded, a host read run committed by it (R115, R117). -/
def State.arbitrate (s : State) : State :=
  let level := s.award
  s.withLink
    { s.link with
      granted := level
      requests :=
        { s.link.requests with
          hostRead :=
            if level = some .hostRead then s.link.requests.hostRead.map fun r => { r with committed := true }
            else s.link.requests.hostRead } }

/-- The end of a step: the arbiter grants a free link (R115), and the doze count follows its conditions (R126). -/
def State.closeStep (s : State) : State :=
  s.arbitrate.refreshDoze

/-- A request at commit priority (R114). -/
def State.requestCommit (s : State) (user : LinkUser) (o : FlashOp) : State :=
  s.withRequests { s.link.requests with commit := some (user, o) }

/-- A request at erase-journal priority (R114). -/
def State.requestEraseJournal (s : State) (o : FlashOp) : State :=
  s.withRequests { s.link.requests with eraseJournal := some o }

/-! ## The erase engine between two turns -/

/-- An idle erase engine with work in READY requests the link at erase priority (R95). -/
def State.lookForWork (s : State) : State :=
  if s.turnDue then (s.withEraser .requesting).withRequests { s.link.requests with erase := true } else s

/-- The erase engine's turn over: idle, and it looks for work again in the same step (R94, R95, R115). -/
def State.endTurn (s : State) : State :=
  (s.withEraser .idle).lookForWork

end Sys2Proof.Machine
end

