-- ==== Sys2Proof/Machine/Link.lean ====
section
/-! DEFINITION. Link.lean: the flash link controller (chapter 6): an operation begun with its first command, the wake, the
suspension and resumption of an erase, and the limits of time. -/

namespace Sys2Proof.Machine

/-! ## Limits, in µs -/

/-- Program busy limit, 4 ms (R111). -/
def programLimit : Nat :=
  4000

/-- Erase busy limit, 600 ms of running time (R111). -/
def eraseLimit : Nat :=
  600000

/-- Suspend latency limit (R119). -/
def suspendLimit : Nat :=
  200

/-- Wake interval (R128). -/
def wakeInterval : Nat :=
  40

/-- Ready-hold limit of a cycle that begins in MOUNTING or FORMATTING (R138, R141). -/
def mountHold : Nat :=
  500

/-- An interval in milliseconds, in µs (R149). -/
def msToUs (ms : Nat) : Nat :=
  ms * 1000

/-! ## Beginning an operation -/

/-- The operation in progress set. -/
def State.setOp (s : State) (user : LinkUser) (o : FlashOp) (stage : OpStage) : State :=
  s.withOp (some { user := user, op := o, stage := stage })

/-- A read begun: any open stream closed, then READ (R109, R122). -/
def State.beginRead (s : State) (user : LinkUser) (o : FlashOp) (addr len : Nat) : State :=
  (s.closeStream.drive [.read addr len]).setOp user o .reading

/-- The first command of an operation, the flash being awake (R109). A host read run whose first address is the open
stream's next address continues the stream (R123); any other operation closes an open stream first (R124). Every program and
erase begins with ENABLE_WRITE and STATUS (R110). -/
def State.firstCommand (s : State) (user : LinkUser) (o : FlashOp) : State :=
  match o with
  | .hostRun run addr =>
    if s.link.stream = some addr then (s.drive [.continueRead run.len]).setOp user o .reading
    else s.beginRead user o addr run.len
  | .pageRead addr => s.beginRead user o addr 256
  | .readBack addr len => s.beginRead user o addr len
  | .mountRead addr len => s.beginRead user o addr len
  | .program _ _ => (s.closeStream.drive [.enableWrite, .status]).setOp user o .writeEnable
  | .erase _ => (s.closeStream.drive [.enableWrite, .status]).setOp user o .writeEnable
  | .wake => ((s.closeStream.drive [.powerUp]).withPower .waking).setOp user o (.waking s.now)
  | .identify => (s.closeStream.drive [.identify]).setOp user o .reading
  | .settle => (s.closeStream.drive [.poll]).setOp user o (.settling s.now none)

/-- The flash needs a wake before a command: UNKNOWN or DOWN (R125, R128). -/
def PowerState.needsWake : PowerState → Bool
  | .unknown => true
  | .down => true
  | .waking => false
  | .awake => false

/-- A granted operation that issues a command begun: after a wake when the flash needs one, else at once (R128). A wake
requested for its own sake issues POWER_UP whatever the power state (R130). -/
def State.startOp (s : State) (user : LinkUser) (o : FlashOp) : State :=
  if s.link.power.needsWake = true ∧ o ≠ .wake then
    ((s.closeStream.drive [.powerUp]).withPower .waking).setOp user o (.waking s.now)
  else s.firstCommand user o

/-! ## Suspension -/

/-- The erase in progress may be suspended: it is polling, running, and the progress guard has passed since ERASE or the
last RESUME (R118). -/
def State.guardPassed (s : State) : Bool :=
  match s.link.op, s.link.erasing with
  | some { op := .erase _, stage := .polling _, .. }, some e =>
    e.progress == .running && s.values.guard ≤ s.now - e.since
  | _, _ => false

/-- SUSPEND issued: the running time closed, the waiting host read run committed, polling begun (R119, R117). -/
def State.suspendErase (s : State) : State :=
  match s.link.erasing with
  | some e =>
    ((s.withErasing (some { e with accrued := e.runningTime s.now, progress := .suspending s.now })).withRequests
      { s.link.requests with hostRead := s.link.requests.hostRead.map fun r => { r with committed := true } }).drive
      [.suspend, .poll]
  | none => s

/-- A waiting host read run suspends an erase whose guard has passed (R118). -/
def State.trySuspend (s : State) : State :=
  if s.link.requests.hostRead.isSome = true ∧ s.guardPassed = true then s.suspendErase else s

/-- With an erase suspended, no run in progress and no host read outstanding, the suspension ends: the stream is closed and
RESUME issued (R120). -/
def State.tryResume (s : State) : State :=
  match s.link.erasing, s.link.op, s.link.requests.hostRead with
  | some e, none, none =>
    if e.progress = .suspended then
      ((s.closeStream.drive [.resume, .poll]).setOp e.user (.erase e.sector) (.polling e.since)).withErasing
        (some { e with progress := .resuming s.now })
    else s
  | _, _, _ => s

/-! ## Host read runs -/

/-- The physical address of a run's first byte, translated through the map as it stands (R10, R2). -/
def State.runAddr (s : State) (r : Run) : Nat :=
  physAddr ((s.tables.entry (sectorOfPage r.page)).getD 0) (pageInSector r.page) r.offset

/-- A host read run is outstanding or in progress. -/
def Link.runBusy (k : Link) : Bool :=
  k.requests.hostRead.isSome ||
    match k.op with
    | some { op := .hostRun _ _, .. } => true
    | _ => false

/-- A run requested at host-read priority; held back while a committed run whose cycle has ended is still being carried out;
an erase whose guard has passed is suspended for it at once (R38, R117, R118). -/
def State.requestRun (s : State) (r : Run) : State :=
  if s.link.runBusy then s.withHeldRun (some r)
  else (s.withRequests { s.link.requests with hostRead := some r }).trySuspend

/-- The run of a read whose cycle has ended: held back, it is dropped; outstanding and not committed, withdrawn; committed,
left to complete with its bytes discarded (R117). A run requested on a free link or in a suspension is granted, and so committed,
in the step that requests it, so a run withdrawn here leaves no suspension behind it (R120). -/
def State.endRun (s : State) : State :=
  match s.heldRun with
  | some _ => s.withHeldRun none
  | none =>
    match s.link.requests.hostRead with
    | some r =>
      s.withRequests
        { s.link.requests with hostRead := if r.committed then some { r with discard := true } else none }
    | none =>
      match s.link.op with
      | some o =>
        match o.op with
        | .hostRun r addr => s.withOp (some { o with op := .hostRun { r with discard := true } addr })
        | _ => s
      | none => s

end Sys2Proof.Machine
end

