-- ==== Sys2Proof/Machine/Staging.lean ====
section
/-! DEFINITION. Staging.lean: the staging buffer and its commit queue (chapter 2): a write decided, slots sealed, taken into
a job, freed and handed back. -/

namespace Sys2Proof.Machine

/-! ## Sealing -/

/-- A slot sealed: FILLING to SEALED, its rank removed, appended at the tail of the queue; a slot that is not FILLING is left
(R28). -/
def Staging.sealSlot (g : Staging) (i : Nat) : Staging :=
  if (g.slot i).state = .filling then
    let h := (g.setSlot i { g.slot i with state := .sealed, rank := none }).closeRank (g.slot i).rank
    { h with queue := h.queue ++ [i] }
  else g

/-- Every FILLING slot sealed in rank order (R29). -/
def Staging.sealAll (g : Staging) : Staging :=
  g.fillingInOrder.foldl Staging.sealSlot g

/-- A seal-all request: every FILLING slot sealed, and the FILLING count's fall to 0 reported once (R29). -/
def State.sealAll (s : State) : State :=
  s.withStagingReport s.staging.sealAll

/-- Pressure sealing after an allocation: with fewer FREE slots than the low-water mark, the oldest FILLING slot is sealed
(R24). -/
def State.pressureSeal (s : State) : State :=
  if s.staging.count .free < s.values.lowWater then
    match s.staging.fillingInOrder with
    | i :: _ => s.withStagingReport (s.staging.sealSlot i)
    | [] => s
  else s

/-! ## Taking a write -/

/-- A write taken into its page's open slot i, and reported to the seal timer (R22, R21). -/
def State.writeInto (s : State) (i : Nat) (w : PageWrite) : State :=
  (s.withStaging (s.staging.setSlot i ((s.staging.slot i).putAll w.bytes))).restartQuiet

/-- FREE slot i allocated for a write: FILLING with the next rank and the write's bytes; the rise of the FILLING count from 0
starts the counts; the taken write is reported; then pressure sealing (R23, R24, R39). -/
def State.allocateFor (s : State) (i : Nat) (w : PageWrite) : State :=
  let n := s.staging.count .filling
  let g := s.staging.setSlot i (((s.staging.slot i).allocated w.page (n + 1)).putAll w.bytes)
  let t := s.withStaging g
  let t := if n = 0 then t.startCounts else t
  t.restartQuiet.pressureSeal

/-- A write decided against the slots as they stand: taken into the page's open slot, into the lowest FREE slot, or made the
waiting write; and the port's answer to each (R21 to R25, R143). -/
def State.decideWrite (s : State) (w : PageWrite) : State :=
  match s.staging.openSlot w.page with
  | some i => (s.writeInto i w).answer []
  | none =>
    match s.staging.lowestFree with
    | some i => (s.allocateFor i w).answer []
    | none =>
      (s.withStaging { s.staging with waiting := some w }).withPort (s.port.setCond .writeWaiting)

/-- The waiting write withdrawn with no slot changed (R27). -/
def State.dropWaiting (s : State) : State :=
  s.withStaging { s.staging with waiting := none }

/-! ## Jobs -/

/-- The slots of a take: the head of the queue and every other queued slot of its logical sector, ordered by page within the
sector; none when the queue is empty (R31). -/
def Staging.takeList (g : Staging) : List Nat :=
  match g.queue with
  | [] => []
  | h :: _ =>
    let sector := (g.slot h).page.map sectorOfPage
    (g.queue.filter fun i => (g.slot i).page.map sectorOfPage == sector).insertionSort
      fun i j => (g.slot i).page.getD 0 ≤ (g.slot j).page.getD 0

/-- One slot's state changed. -/
def Staging.setSlotState (g : Staging) (st : SlotState) (i : Nat) : Staging :=
  g.setSlot i { g.slot i with state := st }

/-- The slots of a list removed from the queue and made COMMITTING (R31). -/
def Staging.take (g : Staging) (taken : List Nat) : Staging :=
  taken.foldl (fun h i => h.setSlotState .committing i) { g with queue := g.queue.filter fun i => !taken.contains i }

/-- One slot made FREE (R33). -/
def Staging.freeSlot (g : Staging) (i : Nat) : Staging :=
  g.setSlot i (g.slot i).freed

/-- A job's slots made FREE at its good end (R33). -/
def Staging.freeSlots (g : Staging) (slots : List Nat) : Staging :=
  slots.foldl Staging.freeSlot g

/-- The bytes present in a slot, with their offsets (R18). -/
def Slot.presentBytes (x : Slot) : List (Nat × Byte) :=
  (List.range Config.pageBytes).filterMap fun o => (x.byte o).map fun v => (o, v)

/-- A newer slot's present bytes laid over an older slot's: each takes the newer value and its flag (R35). -/
def Slot.absorb (older newer : Slot) : Slot :=
  older.putAll newer.presentBytes

/-- The newer open slot n absorbed into the returned slot i: n becomes FREE, leaves the queue or the rank order (R35). -/
def Staging.absorb (g : Staging) (i n : Nat) : Staging :=
  let newer := g.slot n
  let h := (g.setSlot i ((g.slot i).absorb newer)).setSlot n newer.freed
  ({ h with queue := h.queue.filter (· != n) }).closeRank newer.rank

/-- One slot of an abandoned job handed back: any newer open slot of its page absorbed, then SEALED (R34, R35). -/
def Staging.returnSlot (g : Staging) (i : Nat) : Staging :=
  let absorbed :=
    match (g.slot i).page.bind g.openSlot with
    | some n => g.absorb i n
    | none => g
  absorbed.setSlotState .sealed i

/-- The slots of an abandoned job handed back, at the head of the queue in page order (R34). -/
def Staging.returnSlots (g : Staging) (slots : List Nat) : Staging :=
  let h := slots.foldl Staging.returnSlot g
  { h with queue := slots ++ h.queue }

/-- The staging buffer's discard on entry to FAULT: every slot FREE, the queue and the waiting write gone (R41). -/
def Staging.discard (g : Staging) : Staging :=
  { slots := g.slots.map Slot.freed, queue := [], waiting := none }

end Sys2Proof.Machine
end

