-- ==== Sys2Proof/Machine/Mode.lean ====
section
/-! DEFINITION. Mode.lean: the mode controller's changes of mode (chapters 8.3 and 9.1): what leaving READY takes with it,
the degraded latch, the end of a drain, and the entry to FAULT. -/

namespace Sys2Proof.Machine

/-- A write waiting for a slot withdrawn with no slot changed, its cycle error-terminated (R27). -/
def State.failWaiting (s : State) : State :=
  match s.staging.waiting with
  | some _ => s.dropWaiting.errorTerminate
  | none => s

/-- A request of the erase engine not yet granted withdrawn; the engine becomes idle (R95, R100). -/
def State.withdrawErase (s : State) : State :=
  if s.pool.eraser = .requesting then
    (s.withEraser .idle).withRequests { s.link.requests with erase := false }
  else s

/-- The mode changed; on leaving READY the waiting write and the erase engine's request are withdrawn (R27, R95). -/
def State.setMode (s : State) (m : Mode) : State :=
  let t := s.withCtl { s.ctl with mode := m }
  if s.ctl.mode = .ready ∧ m ≠ .ready then t.failWaiting.withdrawErase else t

/-- The degraded latch set, and with it the mode moved: READY to READ_ONLY, DRAIN to HALTED; a latch already set changes
nothing (R165). -/
def State.setLatch (s : State) : State :=
  if s.ctl.degraded then s
  else
    let t := s.withCtl { s.ctl with degraded := true }
    match t.ctl.mode with
    | .ready => t.setMode .readOnly
    | .drain => t.setMode .halted
    | .readOnly => t
    | .halted => t
    | .mounting => t
    | .formatting => t
    | .fault => t

/-- The test of a drain: in DRAIN with every slot FREE and the engine idle, the mode becomes HALTED (R157). -/
def State.drainTest (s : State) : State :=
  if s.ctl.mode = .drain ∧ s.drained = true then s.setMode .halted else s

/-- A cycle the port still holds is error-terminated (R147); an answered one stands. -/
def State.failHeldCycle (s : State) : State :=
  match s.port.cycle with
  | some c => if c.cond.held then s.errorTerminate else s
  | none => s

/-- The entry to FAULT: every block discards its state as its own rule gives, the port error-terminates a held cycle, the
power state, the latch, the power-warning level, the straps and the slots' data bytes keep their values (R166, R41, R64, R3,
R9, R69, R89, R94, R113, R124, R147, R152). -/
def State.enterFault (s : State) : State :=
  let t := s.closeStream.failHeldCycle
  { t with
    staging := t.staging.discard
    heldRun := none
    timer := .stopped
    engine := { t.engine with job := none }
    tables := .reset
    journal := .reset
    pool := .reset
    link := { Link.reset with power := t.link.power }
    ctl := { t.ctl with mode := .fault, mount := none } }

end Sys2Proof.Machine
end

