-- ==== Sys2Proof/Machine/HostPort.lean ====
section
/-! DEFINITION. HostPort.lean: the host port's access checks and presentations (chapter 7), the combination of a finished
run with the slot bytes (R38), and the commands of the host bus: HLAT_FALL, DATA_PHASE_START, DATA_PHASE_END,
READY_HOLD_LIMIT_EXPIRY, WAITING_WRITE_REDECIDE, HOST_READ_RUN_END. -/

namespace Sys2Proof.Machine

/-! ## Presentations and checks -/

/-- The values the slot layers give for the bytes of a read, taken at presentation (R36, R37). -/
def State.takenBytes (s : State) (c : Cycle) : List (Option Byte) :=
  c.bytes.map fun b => s.staging.layeredByte (pageOf b.addr) (offsetOf b.addr)

/-- The offsets of the bytes that no slot supplies, in ascending order (R38). -/
def missingOffsets (bytes : List CycleByte) (taken : List (Option Byte)) : List Nat :=
  (bytes.zip taken).filterMap fun p => if p.2.isNone then some (offsetOf p.1.addr) else none

/-- A read presented to the read service: answered at once when slots supply every byte, else held for a run covering the
others (R37, R38, R144). -/
def State.presentRead (s : State) (c : Cycle) : State :=
  let taken := s.takenBytes c
  match missingOffsets c.bytes taken with
  | [] => s.answer (taken.map fun v => v.getD 0xFF)
  | o :: rest =>
    (s.withPort { s.port with cycle := some { c with cond := .readWaiting, taken := taken } }).requestRun
      { page := pageOf c.addr, offset := o, len := rest.length + 1, committed := false, discard := false }

/-- The record lock refuses a write: lock 1, SVC 0, a byte in the record (R139). -/
def State.lockRefuses (s : State) (c : Cycle) : Bool :=
  s.values.lock && !s.ctl.svc && c.bytes.any fun b => inRecord b.addr

/-- The protected ranges refuse a write: SVC 0 and the cycle's logical sector in a present range (R140). -/
def State.rangeRefuses (s : State) (c : Cycle) : Bool :=
  !s.ctl.svc && s.values.isProtected (logicalSectorOf c.addr)

/-- A write past the mode check: the record lock, the protected ranges, then the staging buffer (R139, R140, R143). -/
def State.checkWrite (s : State) (c : Cycle) : State :=
  if s.lockRefuses c then s.errorTerminate
  else if s.rangeRefuses c then s.errorTerminate
  else s.decideWrite (pageWriteOf c.addr c.bytes)

/-- The access checks on the cycle in progress: the mode check first (R137); a cycle that names no byte and passes it is
answered at once (R135); the rest is presented. In MOUNTING and FORMATTING the cycle stays held for the mount (R138). -/
def State.applyChecks (s : State) : State :=
  match s.port.cycle with
  | none => s
  | some c =>
    match s.ctl.mode with
    | .mounting => s
    | .formatting => s
    | .halted => s.errorTerminate
    | .fault => s.errorTerminate
    | .ready =>
      if c.bytes = [] then s.answer []
      else if c.isRead then s.presentRead c
      else s.checkWrite c
    | .readOnly =>
      if c.isRead = false then s.errorTerminate
      else if c.bytes = [] then s.answer []
      else s.presentRead c
    | .drain =>
      if c.isRead = false then s.errorTerminate
      else if c.bytes = [] then s.answer []
      else s.presentRead c

/-- The cycle a data phase opens: direction, bytes with their lanes and captured data, wait start, and the ready-hold limit,
fixed here by the mode (R133, R141); held until the checks decide it. -/
def State.openCycle (s : State) (hdir hlanen : Bool) (had : BitVec 16) : Cycle :=
  { addr := s.port.latched
    isRead := hdir
    bytes := cycleBytes s.ctl.wide hlanen s.port.latched had
    waitStart := s.now
    limit := if s.ctl.mode.isMount then mountHold else s.values.readyHold
    cond := .heldForMount
    taken := [] }

/-- A cycle held for the mount is checked again when the mount ends (R138). -/
def State.recheckHeld (s : State) : State :=
  match s.port.cycle with
  | some c => if c.cond = .heldForMount then s.applyChecks else s
  | none => s

/-- The fetched bytes put in the places that no slot supplied (R38). -/
def fillTaken : List (Option Byte) → List Byte → List Byte
  | [], _ => []
  | some v :: rest, fetched => v :: fillTaken rest fetched
  | none :: rest, b :: fetched => b :: fillTaken rest fetched
  | none :: rest, [] => 0xFF :: fillTaken rest []

/-- A finished run's bytes handed over: the waiting read is answered with them and the slot bytes taken at presentation
(R38, R144). -/
def State.handOver (s : State) (fetched : List Byte) : State :=
  match s.port.cycle with
  | some c => if c.cond = .readWaiting then s.answer (fillTaken c.taken fetched) else s
  | none => s

/-- The held cycle ends before its answer: a waiting write is withdrawn, a read's run is ended (R27, R117, R141, R146). -/
def State.endHeld (s : State) (cond : CycleCond) : State :=
  match cond with
  | .heldForMount => s
  | .writeWaiting => s.dropWaiting
  | .readWaiting => s.endRun
  | .answered => s
  | .answeredError => s

/-! ## The commands -/

/-- HLAT_FALL (R132): outside a data phase the address is latched from HAU and HAD; during one the edge is ignored, and no
edge is taken in reset (R148). DESIGN CHOICE (log entry 30): while HSTBn is low from before the release of reset, which opens no
cycle (R148), the edge is taken. -/
def execHlatFall (had : BitVec 16) (hau : BitVec 4) (s : State) : Host.Outcome State Fault Refusal :=
  .next <|
    if s.inReset = true ∨ s.port.cycle.isSome = true then s
    else s.withPort { s.port with latched := hau ++ had }

/-- DATA_PHASE_START (R133): a cycle opened, HWAITn driven low, and the checks applied in the same act. -/
def execDataPhaseStart (hdir hlanen : Bool) (had : BitVec 16) (s : State) : Host.Outcome State Fault Refusal :=
  .next <|
    if s.inReset = true ∨ s.port.cycle.isSome = true then s
    else
      (s.withPort { s.port with cycle := some (s.openCycle hdir hlanen had), hwaitn := false }).applyChecks.closeStep

/-- DATA_PHASE_END (R133, R145, R146): the data phase ends; a cycle still held is abandoned. -/
def execDataPhaseEnd (s : State) : Host.Outcome State Fault Refusal :=
  .next <|
    match s.port.cycle with
    | none => s
    | some c =>
      let t := s.endHeld c.cond
      (t.withPort t.port.release).closeStep

/-- READY_HOLD_LIMIT_EXPIRY (R141): a cycle held for its limit is error-terminated; an expiry that finds the cycle answered
does nothing (R142). -/
def execReadyHoldLimitExpiry (s : State) : Host.Outcome State Fault Refusal :=
  .next <|
    match s.port.cycle with
    | none => s
    | some c =>
      if c.cond.held = true ∧ c.limit ≤ s.now - c.waitStart then (s.endHeld c.cond).errorTerminate.closeStep else s

/-- WAITING_WRITE_REDECIDE (R26): the waiting write decided afresh against the slots as they now stand. After a job's end the
next take has come before it (log entry 31). -/
def execWaitingWriteRedecide (s : State) : Host.Outcome State Fault Refusal :=
  .next <|
    match s.staging.waiting with
    | none => s
    | some w => (s.dropWaiting.decideWrite w).closeStep

/-- HOST_READ_RUN_END (R38, R122): the run's bytes are in and the stream stays open at the address after them; the bytes are
handed over, or discarded when the cycle has ended; a run held back behind this one is requested; and a suspension with no
host read outstanding ends (R117, R120). -/
def execHostReadRunEnd (bytes : List Byte) (s : State) : Host.Outcome State Fault Refusal :=
  .next <|
    match s.link.op with
    | some { op := .hostRun r addr, stage := .reading, .. } =>
      if bytes.length = r.len then
        let t := s.withLink { s.link with op := none, stream := some ((addr + r.len) % flashBytes) }
        let t := if r.discard then t else t.handOver bytes
        let t :=
          match t.heldRun with
          | some q => (t.withHeldRun none).requestRun q
          | none => t
        t.tryResume.closeStep
      else s
    | _ => s

end Sys2Proof.Machine
end

