-- ==== Sys2Proof/Machine/Allocation.lean ====
section
/-! DEFINITION. Allocation.lean: what the commit engine, the spare pool and the sector map unit do for one another without
the journal: the abandonment of a job (R61), a target requested and allocated (R54, R90, R12), a job taken and ended (R45, R60), a
retirement requested (R8), and the table changes of R13 to R16. -/

namespace Sys2Proof.Machine

/-! ## Abandonment -/

/-- The table and list changes for an abandoned target: TARGET to SPARE_DIRTY, owner and flag removed, at the tail of the
spare list (R16). -/
def State.returnTarget (s : State) (t : Nat) : State :=
  (s.withTables ((s.tables.setState t .spareDirty none).setPending t false)).withPool
    { s.pool with spares := s.pool.spares ++ [t] }

/-- The job abandoned: its slots handed back, its target returned, its record discarded (R61, R34, R16). The latch is set by
the cause before this (R61). -/
def State.abandonJob (s : State) : State :=
  match s.engine.job with
  | none => s
  | some j =>
    let t := s.withStagingReport (s.staging.returnSlots j.slots)
    let t :=
      match j.target with
      | some p => t.returnTarget p
      | none => t
    t.withJob none

/-! ## Page operations -/

/-- The job slot of page k of the sector (R44). -/
def State.jobSlot (s : State) (j : Job) (k : Nat) : Option Nat :=
  j.slots.find? fun i => (s.staging.slot i).page.map pageInSector == some k

/-- The first job page at or after k (R48, R50). -/
def State.nextJobPage (s : State) (j : Job) (k : Nat) : Option Nat :=
  (List.range 16).find? fun p => decide (k ≤ p) && (s.jobSlot j p).isSome

/-- The page read of the source at the cursor, requested at commit priority (R46). -/
def State.readSource (s : State) (j : Job) : State :=
  (s.withJob (some j)).requestCommit .commitEngine (.pageRead (physAddr j.source j.cursor 0))

/-- The merged image of page k: the bytes read from the source, each byte present in the job slot for k overwritten with that
slot's value (R46). -/
def State.mergedImage (s : State) (j : Job) (k : Nat) (bytes : List Byte) : List Byte :=
  match s.jobSlot j k with
  | none => bytes
  | some i => bytes.zipIdx.map fun b => ((s.staging.slot i).byte b.2).getD b.1

/-- A new byte is compatible with the old one it replaces: new AND old is new (R49). -/
def compatible (new old : Byte) : Bool :=
  new &&& old == new

/-- Every present byte of the job slot for page k is compatible with the byte read (R48). -/
def State.pageCompatible (s : State) (j : Job) (k : Nat) (bytes : List Byte) : Bool :=
  match s.jobSlot j k with
  | none => true
  | some i => bytes.zipIdx.all fun b =>
      match (s.staging.slot i).byte b.2 with
      | some v => compatible v b.1
      | none => true

/-! ## Targets -/

/-- A target request answered: refused with the latch set, and the job abandoned; the first eligible clean entry allocated;
or the first eligible dirty entry named, and its erase requested (R90, R54, R12, R55). -/
def State.requestTarget (s : State) : State :=
  match s.engine.job with
  | none => s
  | some j =>
    if s.ctl.degraded then s.abandonJob
    else
      match s.firstClean with
      | some t =>
        ((s.withTables (s.tables.setState t .target (some j.logical))).withPool
            { s.pool with spares := s.pool.spares.filter (· != t) }).readSource
          { j with target := some t, cursor := 0, phase := .copy, awaited := none }
      | none =>
        match s.firstDirty with
        | some p =>
          (s.withJob (some { j with phase := .allocate, awaited := none })).requestCommit .commitEngine (.erase p)
        | none => s.withJob (some { j with phase := .allocate, awaited := none })

/-- The job goes to ALLOCATE with the cursor at 0 and asks for a target (R47, R53, R54, R57). -/
def State.allocatePhase (s : State) (j : Job) : State :=
  (s.withJob (some { j with cursor := 0, phase := .allocate, awaited := none })).requestTarget

/-! ## Taking a job -/

/-- The job record a take creates (R44): the sector of the take, its map entry as source, the slots. -/
def State.newJob (s : State) (slots : List Nat) : Job :=
  let logical := sectorOfPage (((slots.head?).bind fun i => (s.staging.slot i).page).getD 0)
  { logical := logical, source := (s.tables.entry logical).getD 0, slots := slots, kind := .undecided, target := none,
    attempt := 1, cursor := 0, phase := .decide, fallback := none, awaited := none }

/-- DECIDE begun: under RELOCATE_ONLY a relocation at once (R47), else a read of the first job page (R48). -/
def State.beginDecide (s : State) (j : Job) : State :=
  if s.values.inPlaceAllowed then s.readSource { j with cursor := (s.nextJobPage j 0).getD 0 }
  else s.allocatePhase { j with kind := .relocate }

/-- A take asked for (R45): an idle engine in READY or DRAIN takes the queue's head with the other queued slots of its sector
(R31), and begins DECIDE; an empty queue refuses the take. -/
def State.takeJob (s : State) : State :=
  if s.takeDue then (s.withStaging (s.staging.take s.staging.takeList)).beginDecide (s.newJob s.staging.takeList) else s

/-- FINISH: the job record discarded and the engine idle; a drain that waited for it is tested (R60, R157); and in the same step the
next take is asked for (R45, R60, R115). DESIGN CHOICE: with a write waiting, that take comes before the re-decision of the write, whose
pressure seal could queue a slot of the sector taken (R24, R26, R31; log entry 31). -/
def State.endJob (s : State) : State :=
  (s.withJob none).drainTest.takeJob

/-! ## Retirement -/

/-- A retirement is accepted while the retired count plus the pending number is below 64 (R8). -/
def State.mayRetire (s : State) : Bool :=
  s.tables.retiredCount + s.tables.pendingCount < 64

/-- A retirement accepted: the sector's retire pending flag set (R8). -/
def State.markRetirePending (s : State) (p : Nat) : State :=
  s.withTables (s.tables.setPending p true)

/-- The retire pending flag of a sector whose RETIRE failed cleared (R8). -/
def State.clearRetirePending (s : State) (p : Nat) : State :=
  s.withTables (s.tables.setPending p false)

/-- A RETIRE completed: the sector RETIRED without owner or flag, off the spare list, and the latch set when the retired
count has come to 64 (R14). -/
def State.completeRetire (s : State) (p : Nat) : State :=
  let t := (s.withTables ((s.tables.setState p .retired none).setPending p false)).withPool
    { s.pool with spares := s.pool.spares.filter (· != p) }
  if t.tables.retiredCount = 64 then t.setLatch else t

/-- The four-part change of a REMAP completion: the map entry, the target's record, the source's record and place on the
spare list, and the job's slots (R13). -/
def State.completeRemap (s : State) (l new old : Nat) (slots : List Nat) : State :=
  let tables := ((s.tables.setEntry l new).setState new .mapped (some l)).setState old .spareDirty none
  ((s.withTables tables).withPool { s.pool with spares := s.pool.spares ++ [old] }).withStaging
    (s.staging.freeSlots slots)

/-- A dirty spare erased without FAIL becomes SPARE_CLEAN in its place on the list (R15). -/
def State.spareErased (s : State) (p : Nat) : State :=
  if (s.tables.record p).state = some .spareDirty then
    s.withTables (s.tables.setState p .spareClean (s.tables.record p).owner)
  else s

end Sys2Proof.Machine
end

