-- ==== Sys2Proof/Machine/Install.lean ====
section
/-! DEFINITION. Install.lean: INSTALL and EVALUATE of the mount sequence, and the request of the record (R176, R177, R178). -/

namespace Sys2Proof.Machine

/-- The journal roles an install sets (R69, R85, R175, R176). -/
structure Roles where
  active : Nat
  previous : Option Nat
  sequence : Nat
  appendPos : Nat
  deriving DecidableEq, Repr

/-- The record that the install gives physical sector p (R17). -/
def installedRecord (m : MountRecord) (p : Nat) : SectorRecord :=
  if p < Config.journalSectors then
    { SectorRecord.empty with state := some .journal, usable := flagAt m.workUsable p }
  else
    match m.workMap.findIdx? (· == p) with
    | some l => { SectorRecord.empty with state := some .mapped, owner := some l }
    | none =>
      if m.workRetired.contains p then { SectorRecord.empty with state := some .retired }
      else { SectorRecord.empty with state := some .spareDirty }

/-- The tables installed from the working map, retired set and usable flags (R17, R176). -/
def installedTables (m : MountRecord) : Tables :=
  { map := ⟨((List.range Config.logicalSectors).map fun l => m.workMap[l]?).toArray, by simp⟩
    sector := ⟨((List.range Config.physicalSectors).map (installedRecord m)).toArray, by simp⟩ }

/-- The spare list built in ascending order from every sector the install makes SPARE_DIRTY (R89). -/
def installedSpares (m : MountRecord) : List Nat :=
  sectorNumbers.filter fun p => (installedRecord m p).state == some .spareDirty

/-- The pending erase flags: set on every usable sector but the active and the previous one (R69, R176); all clear after a
format, which has erased every journal sector (R69). -/
def installedPending (m : MountRecord) (r : Roles) (formatted : Bool) : Vector Bool Config.journalSectors :=
  let f := fun j => !formatted && flagAt m.workUsable j && decide (j ≠ r.active) && decide (some j ≠ r.previous)
  #v[f 0, f 1, f 2, f 3, f 4, f 5, f 6, f 7]

/-- The conditions of EVALUATE, for the installed state and the outcome of a mount opening (R177). -/
def evaluateLatch (t : Tables) (r : Roles) (openingFailed : Bool) : Bool :=
  t.retiredCount == 64 || decide (usableCount t.usableFlags < 3) || r.sequence == 0xFFFFFFFE || openingFailed

/-- INSTALL, EVALUATE and the request of the 64 record bytes at page 0 of map[0] (R176, R177, R178). -/
def State.install (s : State) (m : MountRecord) (r : Roles) (formatted openingFailed : Bool) : State :=
  let tables := installedTables m
  let t :=
    { s with
      tables := tables
      pool := { s.pool with spares := installedSpares m }
      journal :=
        { active := some r.active, previous := r.previous, sequence := some r.sequence, appendPos := some r.appendPos
          pendingErase := installedPending m r formatted, requests := [], activity := .idle, opening := none }
      ctl :=
        { s.ctl with
          degraded := evaluateLatch tables r openingFailed
          mount := some { m with step := .record, format := none } } }
  t.startOp .mount (.mountRead (physAddr ((tables.entry 0).getD 0) 0 0) 64)

end Sys2Proof.Machine
end

