-- ==== Sys2Proof/Machine/Journal.lean ====
section
/-! DEFINITION. Journal.lean: the map journal (chapter 4): append requests taken, begun, completed and failed; openings of a
journal sector with their candidates, checkpoints, voids and changes of role; and the command JOURNAL_NEXT_REQUEST. -/

namespace Sys2Proof.Machine

/-! ## Requests and their requesters -/

/-- The request being carried out ends: it leaves the list and the journal is idle (R75). -/
def Journal.endRequest (j : Journal) : Journal :=
  { j with requests := j.requests.tail, activity := .idle, opening := none }

/-- The request of the journal, removed and reported as failed to its requester; a retire pending flag it concerned is cleared
(R77, R8). A failed REMAP, or RETIRE of a target or a spare, abandons the job (R55, R57, R59); a failed RETIRE of a source
ends it (R60); the erase engine's turn ends (R97, R99). -/
def State.requesterFailed (s : State) (q : JournalRequest) : State :=
  match q with
  | .record _ => s.endTurn
  | .append .eraseEngine (.retire p _) => (s.clearRetirePending p).endTurn
  | .append .eraseEngine (.remap _ _ _ _) => s.endTurn
  | .append .commitEngine (.remap _ _ _ _) => s.abandonJob
  | .append .commitEngine (.retire p _) =>
    let t := s.clearRetirePending p
    match t.engine.job with
    | some { awaited := some .retireSource, .. } => t.endJob
    | _ => t.abandonJob

/-- The request being carried out fails (R77). -/
def State.failRequest (s : State) : State :=
  match s.journal.requests with
  | [] => s.withJournal s.journal.endRequest
  | q :: _ => (s.withJournal s.journal.endRequest).requesterFailed q

/-- A link operation of the journal, at the priority of what it works for: mount priority for a format or mount opening,
granted in the same step; else the request's own level (R75, R84, R85, R114). -/
def State.journalOp (s : State) (o : FlashOp) : State :=
  match s.journal.opening with
  | some { purpose := .mount, .. } => s.startOp .journal o
  | some { purpose := .format, .. } => s.startOp .journal o
  | _ =>
    match s.journal.requests with
    | [] => s
    | q :: _ =>
      match q.requester with
      | .commitEngine => s.requestCommit .journal o
      | .eraseEngine => s.requestEraseJournal o

/-! ## The entry of a request -/

/-- The entry of the request being carried out, if it is an append. -/
def Journal.entry (j : Journal) : Option Payload :=
  match j.requests with
  | .append _ e :: _ => some e
  | _ => none

/-- The address of the append position in the active sector (R70, R76). -/
def Journal.appendAddr (j : Journal) : Nat :=
  positionAddr (j.active.getD 0) (j.appendPos.getD 0)

/-- The entry programmed at the append position of the active sector (R76). -/
def State.appendEntry (s : State) : State :=
  match s.journal.entry with
  | none => s
  | some e =>
    (s.withJournal { s.journal with activity := .appending, opening := none }).journalOp
      (.program s.journal.appendAddr (payloadImage e))

/-! ## Openings: candidates -/

/-- An opening for format or mount: the working flags, map and retired set are the mount record's, and every entry is read
back (R85). -/
def OpenPurpose.isMount : OpenPurpose → Bool
  | .format => true
  | .mount => true
  | .entry => false
  | .recording => false

/-- The usable flags an opening goes by (R81, R85, R175). -/
def State.openUsable (s : State) (p : OpenPurpose) : Vector Bool Config.journalSectors :=
  match p.isMount, s.ctl.mount with
  | true, some m => m.workUsable
  | _, _ => s.tables.usableFlags

/-- A journal sector withdrawn while the map is in force: its usable flag cleared, and journal exhaustion reported when the
usable count is below 3 (R83). -/
def State.withdrawUsable (s : State) (j : Nat) : State :=
  let t := s.withTables (s.tables.setUsable j false)
  if usableCount t.tables.usableFlags < 3 then t.setLatch else t

/-- A candidate withdrawn (R82): from the working flags in a format or mount opening (R175), else from the flags in force. -/
def State.withdrawCandidate (s : State) (p : OpenPurpose) (j : Nat) : State :=
  match p.isMount, s.ctl.mount with
  | true, some m => s.withMount (some { m with workUsable := m.workUsable.setIfInBounds j false })
  | _, _ => s.withdrawUsable j

/-- The opening as it stands recorded, its operation at a stage awaited. -/
def State.setOpening (s : State) (o : Opening) : State :=
  s.withJournal { s.journal with activity := .opening, opening := some o }

/-- The sixteen bytes that position q of the candidate is to hold: HEAD at 0, the checkpoint after it (R81). -/
def Opening.imageAt (o : Opening) (q : Nat) : List Byte :=
  if q = 0 then headImage o.number o.candidate else o.images.getD (q - 1) []

/-- The program of position q of the candidate (R81). -/
def State.writePosition (s : State) (o : Opening) (q : Nat) : State :=
  (s.setOpening { o with stage := .program q }).journalOp
    (.program (positionAddr o.candidate q) (o.imageAt q))

/-- A candidate taken: erased first when its pending erase flag is set or it is the previous sector (R79), always in a mount
opening and never in a format one (R85); else its head is written. -/
def State.tryCandidate (s : State) (p : OpenPurpose) (number candidate : Nat) : State :=
  let o : Opening := { purpose := p, candidate := candidate, number := number, stage := .erase, images := [] }
  let eraseFirst :=
    match p with
    | .mount => true
    | .format => false
    | .entry => flagAt s.journal.pendingErase candidate || s.journal.previous == some candidate
    | .recording => flagAt s.journal.pendingErase candidate || s.journal.previous == some candidate
  if eraseFirst then (s.setOpening o).journalOp (.erase candidate) else s.writePosition o 0

/-- An opening while the map is in force: sequence exhaustion when the number needed is 0xFFFFFFFF (R80), else the next usable
sector after the active one as candidate (R79). -/
def State.beginOpening (s : State) (p : OpenPurpose) : State :=
  match s.journal.active, s.journal.sequence with
  | some a, some n =>
    if n = 0xFFFFFFFE then s.setLatch.failRequest
    else
      match nextUsable s.tables.usableFlags a with
      | some c => s.tryCandidate p (n + 1) c
      | none => s.failRequest
  | _, _ => s.failRequest

/-! ## The start of a request -/

/-- The first request of the list begun: an append in the active sector when it can take it, else by an opening or failed at
once (R75, R76, R77); an opening to record a withdrawal, dropped with the latch set (R77, R84). -/
def State.beginRequest (s : State) : State :=
  match s.journal.requests with
  | [] => s
  | .record _ :: _ => if s.ctl.degraded then s.failRequest else s.beginOpening .recording
  | .append _ _ :: _ =>
    if s.tables.usable (s.journal.active.getD 8) then
      if s.journal.appendPos.getD 256 ≤ 255 then s.appendEntry
      else if s.ctl.degraded then s.failRequest
      else s.beginOpening .entry
    else s.failRequest

/-- A request taken into the list: begun at once when the list was empty, else it waits (R75). -/
def State.addRequest (s : State) (q : JournalRequest) : State :=
  let t := s.withJournal { s.journal with requests := s.journal.requests ++ [q] }
  if s.journal.requests.isEmpty then t.beginRequest else t

/-! ## The end of an append -/

/-- REMAP completed: the four-part change; the job's slot list and target field emptied and the job in FINISH, which ends it
at once, or first asks for the source to be retired when a fallback cause is present (R13, R59, R60). -/
def State.remapDone (s : State) (l new old : Nat) : State :=
  match s.engine.job with
  | none => s.completeRemap l new old []
  | some j =>
    let t := s.completeRemap l new old j.slots
    let k := { j with slots := [], target := none, phase := .finish, awaited := none }
    match j.fallback with
    | none => (t.withJob (some k)).endJob
    | some cause =>
      if t.mayRetire then
        ((t.markRetirePending old).withJob (some { k with awaited := some .retireSource })).addRequest
          (.append .commitEngine (.retire old cause))
      else (t.withJob (some k)).setLatch.endJob

/-- RETIRE of the commit engine completed, acted on by the entry it awaits: a target's leads to a new target, or after the
third to target exhaustion and abandonment (R57, R58); a spare's to a new target request (R55); a source's to the job's end
(R60). -/
def State.commitRetireDone (s : State) : State :=
  match s.engine.job with
  | none => s
  | some j =>
    match j.awaited with
    | some .retireTarget =>
      let k := { j with target := none, awaited := none }
      if j.attempt < 3 then s.allocatePhase { k with attempt := j.attempt + 1 }
      else (s.withJob (some k)).setLatch.abandonJob
    | some .retireSpare => s.allocatePhase j
    | some .retireSource => s.endJob
    | some .remap => s
    | none => s

/-- A completed append reported to the sector map unit and to the requester in one step (R76, R13, R14). -/
def State.requesterDone (s : State) (who : Requester) (e : Payload) : State :=
  match e with
  | .remap l new old _ => s.remapDone l new old
  | .retire p _ =>
    match who with
    | .commitEngine => (s.completeRetire p).commitRetireDone
    | .eraseEngine => (s.completeRetire p).endTurn

/-- The append complete: the append position raised, the request removed, the completion reported (R76). -/
def State.appendComplete (s : State) : State :=
  let t := s.withJournal
    { s.journal.endRequest with appendPos := s.journal.appendPos.map (· + 1) }
  match s.journal.requests with
  | .append who e :: _ => t.requesterDone who e
  | _ => t

/-- The append failed in the active sector: the sector withdrawn; with the latch clear and three or more usable, the next
usable one is opened for the entry, else the append fails (R78). -/
def State.appendFailed (s : State) : State :=
  let t := s.withdrawUsable (s.journal.active.getD 8)
  if t.ctl.degraded = false ∧ 3 ≤ usableCount t.tables.usableFlags then t.beginOpening .entry
  else t.failRequest

/-! ## Openings: their end -/

/-- The highest valid head of a mount: the newest sector's sequence number (R168). -/
def MountRecord.newestSequence (m : MountRecord) : Nat :=
  match m.newest.bind fun j => m.heads[j]? with
  | some (.valid n) => n
  | _ => 0

/-- A mount opening failed: INSTALL with the loaded sector active, no previous, and the highest valid head as sequence
(R175). -/
def State.installUnopened (s : State) (m : MountRecord) (leftValid : Bool) : State :=
  s.install m
    { active := m.loaded.getD 0, previous := none
      sequence := if leftValid then m.newestSequence + 1 else m.newestSequence
      appendPos := m.loadedAppend } false true

/-- An opening abandoned: the append it was for fails, a recording is dropped (R82), a mount goes on without it (R175), a
format ends in FAULT (R180). -/
def State.abandonOpening (s : State) (o : Opening) (leftValid : Bool) : State :=
  match o.purpose with
  | .entry => s.failRequest
  | .recording => s.failRequest
  | .format => s.enterFault
  | .mount =>
    match s.ctl.mount with
    | some m => s.installUnopened m leftValid
    | none => s

/-- After a failed candidate: a void that left a valid head raises the active sequence and reports journal exhaustion; a usable
count below 3, or the latch, abandons the opening; otherwise the next usable sector is taken (R82). In a format or mount
opening the latch plays no part, the next candidate follows the failed one, and the loaded sector is never one (R85, R175). -/
def State.nextCandidate (s : State) (o : Opening) (leftValid : Bool) : State :=
  if o.purpose.isMount then
    if leftValid = true ∨ usableCount (s.openUsable o.purpose) < 3 then s.abandonOpening o leftValid
    else
      match nextUsable (s.openUsable o.purpose) o.candidate with
      | none => s.abandonOpening o leftValid
      | some c =>
        if o.purpose = .mount ∧ s.ctl.mount.bind (·.loaded) = some c then s.abandonOpening o leftValid
        else s.tryCandidate o.purpose o.number c
  else if leftValid then
    ((s.withJournal { s.journal with sequence := some o.number }).setLatch).abandonOpening o leftValid
  else if s.ctl.degraded = true ∨ usableCount s.tables.usableFlags < 3 then s.abandonOpening o leftValid
  else
    match nextUsable s.tables.usableFlags (s.journal.active.getD 0) with
    | none => s.abandonOpening o leftValid
    | some c => s.tryCandidate o.purpose o.number c

/-- Sixteen bytes of 0x00, which void a head (R82). -/
def voidImage : List Byte :=
  List.replicate 16 0

/-- The candidate failed: withdrawn, and its head voided when the head program had been issued (R82). -/
def State.candidateFailed (s : State) (o : Opening) (headIssued : Bool) : State :=
  let t := s.withdrawCandidate o.purpose o.candidate
  if headIssued then
    (t.setOpening { o with stage := .voidProgram }).journalOp (.program (positionAddr o.candidate 0) voidImage)
  else t.nextCandidate o false

/-- The roles moved by a complete opening while the map is in force (R81). -/
def Journal.moveRoles (j : Journal) (o : Opening) (previousUsable : Bool) : Journal :=
  let k :=
    match j.previous with
    | some p => if previousUsable = true ∧ p ≠ o.candidate then j.setPendingErase p true else j
    | none => j
  { k with
    active := some o.candidate
    previous := j.active
    sequence := some o.number
    appendPos := some (o.images.length + 1)
    opening := none }

/-- The opening complete: the roles move, and the entry it was made for is appended, the recording ends, or the mount goes to
INSTALL (R81, R84, R85, R175, R180). The append position 67 + r is one past the checkpoint's last position. -/
def State.completeOpening (s : State) (o : Opening) : State :=
  let previousUsable :=
    match s.journal.previous with
    | some p => s.tables.usable p
    | none => false
  let t := s.withJournal (s.journal.moveRoles o previousUsable)
  match o.purpose with
  | .entry => t.appendEntry
  | .recording => (t.withJournal t.journal.endRequest).endTurn
  | .format =>
    match s.ctl.mount with
    | some m =>
      s.install m { active := o.candidate, previous := none, sequence := o.number, appendPos := o.images.length + 1 } true false
    | none => s
  | .mount =>
    match s.ctl.mount with
    | some m =>
      s.install m { active := o.candidate, previous := m.loaded, sequence := o.number, appendPos := o.images.length + 1 }
        false false
    | none => s

/-- The checkpoint of an opening: of the map, the retired set and the usable flags as they stand, or as mount or format has
them (R81, R85). -/
def State.openingCheckpoint (s : State) (o : Opening) : List (List Byte) :=
  match o.purpose.isMount, s.ctl.mount with
  | true, some m =>
    checkpointImages o.number (sectorNumbers.filter fun p => m.workRetired.contains p) m.workMap m.workUsable
  | _, _ => checkpointImages o.number s.tables.retiredSectors s.tables.mapList s.tables.usableFlags

/-- Position q written (and matched, where it is read back): after the head the checkpoint is taken; then the next position, or
after CKPT_END the opening is complete (R81). -/
def State.positionWritten (s : State) (o : Opening) (q : Nat) : State :=
  let o := if q = 0 then { o with images := s.openingCheckpoint o } else o
  if q < o.images.length then s.writePosition o (q + 1) else s.completeOpening o

/-! ## The outcomes of the journal's link operations -/

/-- A program of the journal ended: an entry (R76, R78), a position of an opening (R81, R82), or a void, which is read back
whatever its outcome (R82). -/
def State.journalProgramEnd (s : State) (fail : Bool) : State :=
  match s.journal.activity, s.journal.opening with
  | .appending, _ =>
    if fail then s.appendFailed
    else if s.values.verify then s.journalOp (.readBack s.journal.appendAddr 16)
    else s.appendComplete
  | .opening, some o =>
    match o.stage with
    | .program q =>
      if fail then s.candidateFailed o true
      else if o.purpose.isMount || s.values.verify then
        (s.setOpening { o with stage := .check q }).journalOp (.readBack (positionAddr o.candidate q) 16)
      else s.positionWritten o q
    | .voidProgram =>
      (s.setOpening { o with stage := .voidCheck }).journalOp (.readBack (positionAddr o.candidate 0) 16)
    | .erase => s
    | .check _ => s
    | .voidCheck => s
  | _, _ => s

/-- A read-back of the journal ended: compared with the sixteen bytes programmed (R76, R78, R81, R82), or, after a void,
judged for a valid head (R82). -/
def State.journalReadBackEnd (s : State) (bytes : List Byte) : State :=
  match s.journal.activity, s.journal.opening with
  | .appending, _ =>
    if s.journal.entry.map payloadImage = some bytes then s.appendComplete else s.appendFailed
  | .opening, some o =>
    match o.stage with
    | .check q => if bytes = o.imageAt q then s.positionWritten o q else s.candidateFailed o true
    | .voidCheck => s.nextCandidate o (validHead o.candidate bytes).isSome
    | .program _ => s
    | .voidProgram => s
    | .erase => s
  | _, _ => s

/-- The erase of a candidate ended: its pending erase flag cleared and its head written, or the candidate failed (R79,
R82). -/
def State.journalEraseEnd (s : State) (fail : Bool) : State :=
  match s.journal.opening with
  | some o =>
    if o.stage = .erase then
      if fail then s.candidateFailed o false
      else (s.withJournal (s.journal.setPendingErase o.candidate false)).writePosition o 0
    else s
  | none => s

/-! ## The command -/

/-- JOURNAL_NEXT_REQUEST (R75): the journal being idle, the request that waits in its list is begun. -/
def execJournalNextRequest (s : State) : Host.Outcome State Fault Refusal :=
  .next <| if s.journal.activity = .idle then s.beginRequest.closeStep else s

end Sys2Proof.Machine
end

