-- ==== Sys2Proof/Machine/Commit.lean ====
section
/-! DEFINITION. Commit.lean: the commit engine (chapter 3): the outcomes of its page reads, programs, read-backs
and erases, and the commands COMMIT_TAKE and PAGE_READ_END. -/

namespace Sys2Proof.Machine

/-! ## The page cursor moved -/

/-- PROGRAM_IN_PLACE from page k on: the next job page is read, or, the cursor having passed the last one, the in-place commit
has succeeded: the job's slots become FREE and the job ends in FINISH, which without a fallback cause ends it in the same
step (R50, R52, R60), the next take asked for with it (R45). -/
def State.programFrom (s : State) (j : Job) (k : Nat) : State :=
  match s.nextJobPage j k with
  | some p => s.readSource { j with cursor := p, phase := .programInPlace }
  | none => (s.withStaging (s.staging.freeSlots j.slots)).endJob

/-- COPY from page k on: page k of the source is read, or, the cursor being 16, the append of REMAP is requested (R56,
R59). -/
def State.copyFrom (s : State) (j : Job) (k : Nat) : State :=
  if k < 16 then s.readSource { j with cursor := k, phase := .copy }
  else
    (s.withJob (some { j with cursor := 16, phase := .journal, awaited := some .remap })).addRequest
      (.append .commitEngine
        (.remap j.logical (j.target.getD 0) j.source (if j.fallback.isSome then .inPlaceFailed else .ordinary)))

/-- The page at the cursor done: the cursor moves on as the phase's rule states (R50, R56). -/
def State.pageDone (s : State) (j : Job) : State :=
  match j.kind with
  | .inPlace => s.programFrom j (j.cursor + 1)
  | .relocate => s.copyFrom j (j.cursor + 1)
  | .undecided => s

/-! ## Failures of a page -/

/-- The page at the cursor failed its program or its verification: an in-place commit falls back to a relocation (R53); a
relocation's target is to be retired, or, that being refused at the cap, the job is abandoned with the latch set (R57, R8). -/
def State.pageFailed (s : State) (j : Job) (cause : RetireCause) : State :=
  match j.kind, j.target with
  | .inPlace, _ => s.allocatePhase { j with kind := .relocate, fallback := some cause }
  | .relocate, some t =>
    if s.mayRetire then
      ((s.markRetirePending t).withJob (some { j with phase := .journal, awaited := some .retireTarget })).addRequest
        (.append .commitEngine (.retire t cause))
    else s.setLatch.abandonJob
  | .relocate, none => s
  | .undecided, _ => s

/-! ## The outcomes of the engine's link operations -/

/-- The physical address of the page at the cursor in the sector the job writes: the source for an in-place commit, the target
for a relocation (R50, R51, R56). -/
def Job.pageAddr (j : Job) : Nat :=
  physAddr (if j.kind = .inPlace then j.source else j.target.getD 0) j.cursor 0

/-- The work page replaced (R46). -/
def State.withWorkPage (s : State) (image : List Byte) : State :=
  s.withEngine { s.engine with workPage := image }

/-- A page read of the source ended: tested in DECIDE (R48); merged and programmed, or passed over when equal to the page
read, in PROGRAM_IN_PLACE (R50); merged and programmed, or left when blank, in COPY (R56). -/
def State.pageReadDone (s : State) (bytes : List Byte) : State :=
  match s.engine.job with
  | none => s
  | some j =>
    match j.phase with
    | .decide =>
      if s.pageCompatible j j.cursor bytes then
        match s.nextJobPage j (j.cursor + 1) with
        | some p => s.readSource { j with cursor := p }
        | none => s.programFrom { j with kind := .inPlace } 0
      else s.allocatePhase { j with kind := .relocate }
    | .programInPlace =>
      let image := s.mergedImage j j.cursor bytes
      if image = bytes then (s.withWorkPage image).programFrom j (j.cursor + 1)
      else (s.withWorkPage image).requestCommit .commitEngine (.program j.pageAddr image)
    | .copy =>
      let image := s.mergedImage j j.cursor bytes
      if allErased image then (s.withWorkPage image).copyFrom j (j.cursor + 1)
      else (s.withWorkPage image).requestCommit .commitEngine (.program j.pageAddr image)
    | .allocate => s
    | .verify => s
    | .journal => s
    | .finish => s

/-- A page program ended: verified, or counted as good with verify off, or failed (R50, R51, R56). -/
def State.commitProgramEnd (s : State) (fail : Bool) : State :=
  match s.engine.job with
  | none => s
  | some j =>
    if fail then s.pageFailed j .programFail
    else if s.values.verify then
      (s.withJob (some { j with phase := .verify })).requestCommit .commitEngine (.readBack j.pageAddr 256)
    else s.pageDone j

/-- A read-back of a page ended: compared with the work page in all 256 bytes (R51). -/
def State.commitReadBackEnd (s : State) (bytes : List Byte) : State :=
  match s.engine.job with
  | none => s
  | some j => if bytes = s.engine.workPage then s.pageDone j else s.pageFailed j .verifyFail

/-- An erase of spare p for allocation ended: the spare is clean and a target is asked for again; or it is to be retired; or,
that being refused, the latch is set and the next request refused (R55). -/
def State.commitEraseEnd (s : State) (p : Nat) (fail : Bool) : State :=
  match s.engine.job with
  | none => s
  | some j =>
    if fail then
      if s.mayRetire then
        ((s.markRetirePending p).withJob (some { j with awaited := some .retireSpare })).addRequest
          (.append .commitEngine (.retire p .eraseFail))
      else s.setLatch.requestTarget
    else (s.spareErased p).requestTarget

/-! ## The commands -/

/-- COMMIT_TAKE (R45): an idle engine in READY or DRAIN takes the queue's head with the other queued slots of its sector
(R31), and begins DECIDE; an empty queue refuses the take. -/
def execCommitTake (s : State) : Host.Outcome State Fault Refusal :=
  .next <| if s.takeDue then s.takeJob.closeStep else s

/-- PAGE_READ_END (R46): the commit engine's page read in progress ends with its 256 bytes. -/
def execPageReadEnd (bytes : List Byte) (s : State) : Host.Outcome State Fault Refusal :=
  .next <|
    match s.link.op with
    | some { user := .commitEngine, op := .pageRead _, stage := .reading } =>
      if bytes.length = 256 then ((s.withOp none).pageReadDone bytes).closeStep else s
    | _ => s

end Sys2Proof.Machine
end

