-- ==== Sys2Proof/Machine/EraseEngine.lean ====
section
/-! DEFINITION. EraseEngine.lean: the erase engine's turns (chapter 5.3): the request, the subject chosen at the grant, the
outcomes of its erases, and the command ERASE_ENGINE_REQUEST. -/

namespace Sys2Proof.Machine

/-- The grant of the erase engine's request, already removed: its subject chosen, a stale journal sector before a dirty spare,
and the erase begun; or nothing issued and the engine idle (R96, R84). -/
def State.grantErase (s : State) : State :=
  if s.ctl.mode ≠ .ready then s.withEraser .idle
  else
    match s.staleOffer, s.firstDirty with
    | some j, _ => (s.withEraser (.erasingJournal j)).startOp .eraseEngine (.erase j)
    | none, some p => (s.withEraser (.erasingSpare p)).startOp .eraseEngine (.erase p)
    | none, none => s.withEraser .idle

/-- An erase of Jj that stands requested withdrawn. -/
def Requests.withoutErase (r : Requests) (j : Nat) : Requests :=
  { r with
    commit := if r.commit = some (.journal, .erase j) then none else r.commit
    eraseJournal := if r.eraseJournal = some (.erase j) then none else r.eraseJournal }

/-- An opening that waits for the link to erase Jj, when the erase engine's erase of Jj has ended first: it finds the pending flag
clear and writes without erasing, or finds the sector unusable and takes the next candidate (R84). -/
def State.openingFinds (s : State) (j : Nat) (fail : Bool) : State :=
  match s.journal.opening with
  | some o =>
    if o.stage = .erase ∧ o.candidate = j then
      let t := s.withRequests (s.link.requests.withoutErase j)
      if fail then t.nextCandidate o false else t.tryCandidate o.purpose o.number j
    else s
  | none => s

/-- The erase of a stale journal sector ended: no longer pending; or withdrawn, and, with three or more usable and the latch
clear, an opening to record the withdrawal requested (R84, R97). An opening that waits to erase the same sector goes by what it
finds. -/
def State.journalSectorErased (s : State) (j : Nat) (fail : Bool) : State :=
  if fail then
    let t := s.withdrawUsable j
    (if t.ctl.degraded = false ∧ 3 ≤ usableCount t.tables.usableFlags then
        (t.withEraser (.recording j)).addRequest (.record j)
      else t.endTurn).openingFinds j true
  else (s.withJournal (s.journal.setPendingErase j false)).endTurn.openingFinds j false

/-- The erase of a dirty spare ended: clean in its place (R98); or to be retired, the RETIRE requested; or, that being refused
at the cap, the latch set (R99). -/
def State.spareEraseEnd (s : State) (p : Nat) (fail : Bool) : State :=
  if fail then
    if s.mayRetire then
      ((s.markRetirePending p).withEraser (.retiring p)).addRequest (.append .eraseEngine (.retire p .eraseFail))
    else s.setLatch.endTurn
  else (s.spareErased p).endTurn

/-- An erase of the erase engine ended, acted on by its activity (R97, R98, R99). -/
def State.eraserEraseEnd (s : State) (fail : Bool) : State :=
  match s.pool.eraser with
  | .erasingJournal j => s.journalSectorErased j fail
  | .erasingSpare p => s.spareEraseEnd p fail
  | .idle => s
  | .requesting => s
  | .retiring _ => s
  | .recording _ => s

/-- ERASE_ENGINE_REQUEST (R95): an idle erase engine with work in READY requests the link at erase priority. -/
def execEraseEngineRequest (s : State) : Host.Outcome State Fault Refusal :=
  .next <| if s.turnDue then s.lookForWork.closeStep else s

end Sys2Proof.Machine
end

