-- ==== Sys2Proof/Machine/Mount.lean ====
section
/-! DEFINITION. Mount.lean: the mount and format sequences (chapters 9.3 to 9.5): the run begun, the head scan, the checkpoint
load and replay, the mount opening, the search for the previous sector, the record, the format; and the commands RESET_RELEASE,
INTERNAL_RESET_END, SETTLE_END, IDENTIFY_END and MOUNT_READ_END. -/

namespace Sys2Proof.Machine

/-! ## The mount record -/

/-- The mount record as it is created: empty (R168). -/
def MountRecord.start : MountRecord :=
  { step := .wake, heads := Vector.replicate _ .blank, newest := none, loaded := none, workMap := [], workRetired := [],
    workUsable := Vector.replicate _ false, reading := 0, image := [], loadedAppend := 0, format := none }

/-- The sequence number of Jj in the head table, when its head is valid (R168). -/
def MountRecord.headSequence (m : MountRecord) (j : Nat) : Option Nat :=
  match m.heads[j]? with
  | some (.valid n) => some n
  | _ => none

/-- The sequence numbers of the valid heads, J0 first. -/
def MountRecord.sequences (m : MountRecord) : List Nat :=
  (List.range Config.journalSectors).filterMap m.headSequence

/-- The sector whose valid head has the highest sequence number below a bound (R171, R176). -/
def MountRecord.highestBelow (m : MountRecord) (bound : Nat) : Option Nat :=
  let candidates := (List.range Config.journalSectors).filter fun j =>
    match m.headSequence j with
    | some n => decide (n < bound)
    | none => false
  candidates.find? fun j => candidates.all fun k => (m.headSequence k).getD 0 ≤ (m.headSequence j).getD 0

/-! ## Entry to FORMATTING, and the end without usable state -/

/-- Entry to FORMATTING: the mode, all eight working usable flags set, and the erase of J0 (R179). -/
def State.enterFormatting (s : State) (m : MountRecord) : State :=
  ((s.setMode .formatting).withMount
      (some { m with workUsable := Vector.replicate _ true, format := some (.eraseJournal 0) })).startOp .mount (.erase 0)

/-- No usable journal state, or an inconsistency: FORMATTING with FMT at 1, FAULT with FMT at 0 (R170 to R174). -/
def State.noUsableState (s : State) (m : MountRecord) : State :=
  if s.ctl.fmt then s.enterFormatting m else s.enterFault

/-! ## LOAD -/

/-- The sixteen reads of Jj begun, for LOAD or for INSTALL's search (R171, R176). -/
def State.readSector (s : State) (m : MountRecord) (step : MountStep) (j : Nat) : State :=
  (s.withMount (some { m with step := step, reading := j, image := [] })).startOp .mount
    (.mountRead (physAddr j 0 0) 256)

/-- One 256-byte read taken: the next one begun, or the sector whole (R171). -/
def State.nextPage (s : State) (m : MountRecord) : State :=
  (s.withMount (some m)).startOp .mount (.mountRead (physAddr m.reading 0 0 + m.image.length) 256)

/-! ## OPEN and INSTALL -/

/-- OPEN (R175): the candidate is the next usable sector after the newest; the opening fails when the number needed would be
0xFFFFFFFF or when the loaded sector comes first. -/
def State.beginMountOpening (s : State) (m : MountRecord) : State :=
  let t := s.withMount (some { m with step := .opening })
  let m := { m with step := .opening }
  if m.newestSequence + 1 = 0xFFFFFFFF then t.installUnopened m false
  else
    match nextUsable m.workUsable (m.newest.getD 0) with
    | none => t.installUnopened m false
    | some c =>
      if m.loaded = some c then t.installUnopened m false else t.tryCandidate .mount (m.newestSequence + 1) c

/-- INSTALL with the newest sector active (R176). -/
def State.installNewest (s : State) (m : MountRecord) (previous : Option Nat) : State :=
  s.install m
    { active := m.loaded.getD 0, previous := previous, sequence := m.newestSequence, appendPos := m.loadedAppend } false false

/-- INSTALL's search for the previous sector among the valid heads below a sequence number: the next one read, or none
(R176). -/
def State.searchPrevious (s : State) (m : MountRecord) (bound : Nat) : State :=
  match m.highestBelow bound with
  | some j => s.readSector m .install j
  | none => s.installNewest m none

/-- The sector read for INSTALL whole: previous when its checkpoint is complete, else the search goes on below it (R176). -/
def State.previousRead (s : State) (m : MountRecord) : State :=
  let n := (m.headSequence m.reading).getD 0
  match checkpointOf m.image n with
  | some _ => s.installNewest m (some m.reading)
  | none => s.searchPrevious m n

/-! ## REPLAY -/

/-- The complete checkpoint of the sector read taken as loaded, its consistency checked, its incremental region replayed; then
OPEN when it is the older sector, INSTALL when it is the newest (R171 to R174). -/
def State.checkpointLoaded (s : State) (m : MountRecord) (k : Checkpoint) : State :=
  let m :=
    { m with
      step := .replay, loaded := some m.reading, workMap := k.map, workRetired := k.retired
      workUsable := usableOfByte k.usable, loadedAppend := appendPositionOf m.image }
  if k.consistent m.reading then
    match replay m.image k with
    | none => s.noUsableState m
    | some w =>
      let m := { m with workMap := w.map, workRetired := w.retired }
      if m.newest = some m.reading then s.searchPrevious m m.newestSequence else s.beginMountOpening m
  else s.noUsableState m

/-- The sector read for LOAD whole: loaded when its checkpoint is complete, else the valid head next below it is read, or
there is no usable state (R171). -/
def State.loadRead (s : State) (m : MountRecord) : State :=
  let n := (m.headSequence m.reading).getD 0
  match checkpointOf m.image n with
  | some k => s.checkpointLoaded m k
  | none =>
    match m.highestBelow n with
    | some j => s.readSector m .load j
    | none => s.noUsableState m

/-! ## SCAN -/

/-- The head table whole: all blank formats; no valid head, or two with the same number, is no usable state; else the newest
is loaded (R170). -/
def State.scanDecide (s : State) (m : MountRecord) : State :=
  if m.heads.all (· == .blank) then s.enterFormatting m
  else if m.sequences = [] ∨ ¬ m.sequences.Nodup then s.noUsableState m
  else
    match m.highestBelow 0xFFFFFFFF with
    | some j => s.readSector { m with newest := some j } .load j
    | none => s.noUsableState m

/-- Position 0 of Jj read in SCAN (R170). -/
def State.scanFrom (s : State) (m : MountRecord) (j : Nat) : State :=
  (s.withMount (some { m with step := .scan, reading := j })).startOp .mount (.mountRead (positionAddr j 0) 16)

/-- A head read of SCAN ended: classed into the head table; then the next sector, or the decision (R170). -/
def State.scanRead (s : State) (m : MountRecord) (bytes : List Byte) : State :=
  let m := { m with heads := m.heads.setIfInBounds m.reading (headClassOf m.reading bytes) }
  if m.reading < 7 then s.scanFrom m (m.reading + 1) else s.scanDecide m

/-! ## RECORD: the end of the mount -/

/-- The first mode of the run (R161). -/
def ModeControl.firstMode (c : ModeControl) : Mode :=
  match c.degraded, c.powerWarning with
  | false, false => .ready
  | true, false => .readOnly
  | false, true => .drain
  | true, true => .halted

/-- RECORD ended: the values taken, the map in force, the first mode, the mount record discarded, a held cycle checked again,
and a drain with nothing to do finished (R178, R161, R138, R157). -/
def State.recordRead (s : State) (bytes : List Byte) : State :=
  (((s.withValues (decodeRecord bytes)).withCtl { s.ctl with mode := s.ctl.firstMode, mount := none }).recheckHeld).drainTest

/-! ## The format sequence -/

/-- A format operation begun at a stage. -/
def State.formatOp (s : State) (m : MountRecord) (stage : FormatStage) (o : FlashOp) : State :=
  (s.withMount (some { m with format := some stage })).startOp .mount o

/-- The identity map of a format (R180). -/
def identityMap : List Nat :=
  (List.range Config.logicalSectors).map (· + 8)

/-- The format opening asked for: the identity map, no retired sector, sequence 1, the lowest usable journal sector (R180,
R85). -/
def State.beginFormatOpening (s : State) (m : MountRecord) : State :=
  let m := { m with workMap := identityMap, workRetired := [], format := some .opening }
  match (List.range Config.journalSectors).find? (flagAt m.workUsable) with
  | some c => (s.withMount (some m)).tryCandidate .format 1 c
  | none => s.enterFault

/-- The next data sector's erase, or after sector 263 the format opening (R180). -/
def State.formatData (s : State) (m : MountRecord) (p : Nat) : State :=
  if p ≤ 263 then s.formatOp m (.eraseData p) (.erase p) else s.beginFormatOpening m

/-- The next journal sector's erase, or after J7 the count of the usable flags: FAULT below 3, else the data sectors
(R179). -/
def State.formatJournal (s : State) (m : MountRecord) (j : Nat) : State :=
  if j < Config.journalSectors then s.formatOp m (.eraseJournal j) (.erase j)
  else if usableCount m.workUsable < 3 then s.enterFault
  else s.formatData m 8

/-- An erase of the format ended (R179, R180). -/
def State.formatEraseEnd (s : State) (fail : Bool) : State :=
  match s.ctl.mount with
  | some m =>
    match m.format with
    | some (.eraseJournal j) =>
      if fail then
        s.formatOp { m with workUsable := m.workUsable.setIfInBounds j false } (.readFailed j)
          (.mountRead (positionAddr j 0) 16)
      else s.formatJournal m (j + 1)
    | some (.eraseData p) => if fail then s.enterFault else s.formatData m (p + 1)
    | _ => s
  | none => s

/-- Position 0 of a journal sector whose erase failed was read: a valid head is voided, anything else left (R179). -/
def State.formatHeadRead (s : State) (m : MountRecord) (j : Nat) (bytes : List Byte) : State :=
  if (validHead j bytes).isSome then s.formatOp m (.voidProgram j) (.program (positionAddr j 0) voidImage)
  else s.formatJournal m (j + 1)

/-- The program of a void ended: read back whatever its outcome (R179, R82). -/
def State.formatProgramEnd (s : State) : State :=
  match s.ctl.mount with
  | some m =>
    match m.format with
    | some (.voidProgram j) => s.formatOp m (.voidCheck j) (.readBack (positionAddr j 0) 16)
    | _ => s
  | none => s

/-- The read-back of a void ended: FAULT when it still shows a valid head (R179). -/
def State.formatReadBackEnd (s : State) (bytes : List Byte) : State :=
  match s.ctl.mount with
  | some m =>
    match m.format with
    | some (.voidCheck j) => if (validHead j bytes).isSome then s.enterFault else s.formatJournal m (j + 1)
    | _ => s
  | none => s

/-! ## Mount reads -/

/-- A mount read ended, acted on by the step of the mount or the stage of the format (R168, R170, R171, R176, R178,
R179). -/
def State.mountReadDone (s : State) (bytes : List Byte) : State :=
  match s.ctl.mount with
  | none => s
  | some m =>
    match m.format with
    | some (.readFailed j) => s.formatHeadRead m j bytes
    | some _ => s
    | none =>
      let taken := { m with image := m.image ++ bytes }
      match m.step with
      | .scan => s.scanRead m bytes
      | .load => if taken.image.length < 4096 then s.nextPage taken else s.loadRead taken
      | .install => if taken.image.length < 4096 then s.nextPage taken else s.previousRead taken
      | .record => s.recordRead bytes
      | .wake => s
      | .settle => s
      | .identify => s
      | .replay => s
      | .opening => s
      | .evaluate => s

/-! ## The start of the run -/

/-- A run begun: the mount record created empty, and the wake, requested for its own sake (R168, R169). -/
def State.beginMount (s : State) : State :=
  (s.withMount (some .start)).startOp .mount .wake

/-- The straps and the power-warning level sampled (R167, R155), and the two causes of reset as given; the mount begins when
neither is left (R164). -/
def State.sampleAt (s : State) (wide fmt svc pwrwarnn rstnLow internalReset : Bool) : State :=
  let t := s.withCtl
    { s.ctl with
      wide := wide, fmt := fmt, svc := svc, powerWarning := !pwrwarnn, rstnLow := rstnLow, internalReset := internalReset }
  if rstnLow = false ∧ internalReset = false then t.beginMount else t

/-- The step of the mount record moved. -/
def State.mountStep (s : State) (step : MountStep) : State :=
  s.withMount (s.ctl.mount.map fun m => { m with step := step })

/-! ## The commands -/

/-- RESET_RELEASE (R167, R155): RSTn rising samples the straps and the power-warning level; the mount begins unless the
internal reset still runs. -/
def execResetRelease (wide fmt svc pwrwarnn : Bool) (s : State) : Host.Outcome State Fault Refusal :=
  .next <|
    if s.ctl.rstnLow then (s.sampleAt wide fmt svc pwrwarnn false s.ctl.internalReset).closeStep else s

/-- INTERNAL_RESET_END (R164, R167): the internal reset after power-on ends and samples the same pins; the mount begins unless
RSTn is low. -/
def execInternalResetEnd (wide fmt svc pwrwarnn : Bool) (s : State) : Host.Outcome State Fault Refusal :=
  .next <|
    if s.ctl.internalReset then (s.sampleAt wide fmt svc pwrwarnn s.ctl.rstnLow false).closeStep else s

/-- SETTLE_END (R130, R169): with BUSY set polling goes on; with SUSP set RESUME is issued and polling begins again; with
neither the settle ends and identify follows. -/
def execSettleEnd (st : Byte) (s : State) : Host.Outcome State Fault Refusal :=
  .next <|
    match s.link.op with
    | some { user := user, op := .settle, stage := .settling first none } =>
      if busyFlag st then s
      else if suspFlag st then
        ((s.drive [.resume, .poll]).setOp user .settle (.settling first (some s.now))).closeStep
      else (((s.withOp none).mountStep .identify).startOp .mount .identify).closeStep
    | _ => s

/-- IDENTIFY_END (R130, R169): the identity 0x49, 0x44, 0x23 leads to SCAN; any other is a link fault. -/
def execIdentifyEnd (b0 b1 b2 : Byte) (s : State) : Host.Outcome State Fault Refusal :=
  .next <|
    match s.link.op, s.ctl.mount with
    | some { op := .identify, stage := .reading, .. }, some m =>
      if b0 = 0x49 ∧ b1 = 0x44 ∧ b2 = 0x23 then ((s.withOp none).scanFrom m 0).closeStep
      else s.enterFault.closeStep
    | _, _ => s

/-- MOUNT_READ_END (R170): the mount read in progress ends with the bytes it asked for. -/
def execMountReadEnd (bytes : List Byte) (s : State) : Host.Outcome State Fault Refusal :=
  .next <|
    match s.link.op with
    | some { op := .mountRead _ len, stage := .reading, .. } =>
      if bytes.length = len then ((s.withOp none).mountReadDone bytes).closeStep else s
    | _ => s

end Sys2Proof.Machine
end

