-- ==== Sys2Proof/Machine/LinkCommands.lean ====
section
/-! DEFINITION. LinkCommands.lean: the commands of the flash link (chapter 6): LINK_GRANT, WAKE_INTERVAL_END,
WRITE_ENABLE_STATUS, PROGRAM_END, READ_BACK_END, ERASE_END, SUSPEND_STATUS, RESUME_STATUS, SUSPEND_LATENCY_EXPIRY,
BUSY_LIMIT_EXPIRY and PROGRESS_GUARD_PASSES. An outcome goes to the requester of the operation. -/

namespace Sys2Proof.Machine

/-! ## The arbiter -/

/-- The grant of a host read run: committed, and translated through the map at this moment (R117, R10). -/
def State.grantRun (s : State) (r : Run) : State :=
  (s.withRequests { s.link.requests with hostRead := none }).startOp .readService
    (.hostRun { r with committed := true } (s.runAddr r))

/-- The grant of the commit engine's erase of spare p, already removed from the requests: issued when the spare is still
dirty and eligible and the latch clear; else ended at once with nothing issued, done when the spare is clean and skipped
otherwise, and either way a target is asked for again (R92, R55). -/
def State.grantAllocationErase (s : State) (p : Nat) : State :=
  if (s.tables.record p).state = some .spareDirty ∧ s.tables.eligible p = true ∧ s.ctl.degraded = false then
    s.startOp .commitEngine (.erase p)
  else s.requestTarget

/-- The grant at commit priority (R115, R92). -/
def State.grantCommit (s : State) (user : LinkUser) (o : FlashOp) : State :=
  let t := s.withRequests { s.link.requests with commit := none }
  match user, o with
  | .commitEngine, .erase p => t.grantAllocationErase p
  | _, _ => t.startOp user o

/-- The granted request begun as the operation in progress, and no longer outstanding (R115, R116). -/
def State.beginGranted (s : State) : State :=
  let t := s.withLink { s.link with granted := none }
  match s.link.granted with
  | none => s
  | some .hostRead =>
    match s.link.requests.hostRead with
    | some r => t.grantRun r
    | none => t
  | some .commit =>
    match s.link.requests.commit with
    | some (user, o) => t.grantCommit user o
    | none => t
  | some .eraseJournal =>
    match s.link.requests.eraseJournal with
    | some o => (t.withRequests { s.link.requests with eraseJournal := none }).startOp .journal o
    | none => t
  | some .erase => (t.withRequests { s.link.requests with erase := false }).grantErase

/-! ## Outcomes handed to the requester -/

/-- The outcome of a program handed to its requester (R109). -/
def State.programOutcome (s : State) (user : LinkUser) (fail : Bool) : State :=
  match user with
  | .commitEngine => s.commitProgramEnd fail
  | .journal => s.journalProgramEnd fail
  | .mount => s.formatProgramEnd
  | .eraseEngine => s
  | .readService => s

/-- The bytes of a read-back handed to its requester (R109). -/
def State.readBackOutcome (s : State) (user : LinkUser) (bytes : List Byte) : State :=
  match user with
  | .commitEngine => s.commitReadBackEnd bytes
  | .journal => s.journalReadBackEnd bytes
  | .mount => s.formatReadBackEnd bytes
  | .eraseEngine => s
  | .readService => s

/-- The outcome of an erase handed to its requester (R109). -/
def State.eraseOutcome (s : State) (user : LinkUser) (sector : Nat) (fail : Bool) : State :=
  match user with
  | .commitEngine => s.commitEraseEnd sector fail
  | .journal => s.journalEraseEnd fail
  | .eraseEngine => s.eraserEraseEnd fail
  | .mount => s.formatEraseEnd fail
  | .readService => s

/-- The erase operation over: no operation, no erase record, and its outcome status handed on (R111, R119). -/
def State.endErase (s : State) (e : EraseRecord) (st : Byte) : State :=
  ((s.withOp none).withErasing none).eraseOutcome e.user e.sector (failFlag st)

/-! ## The commands -/

/-- LINK_GRANT (R115, R120): the request that the arbiter has granted, at the end of the step that took it on a free link or ended
the operation before, is begun. -/
def execLinkGrant (s : State) : Host.Outcome State Fault Refusal :=
  .next <| if s.link.op.isNone then s.arbitrate.beginGranted.closeStep else s

/-- WAKE_INTERVAL_END (R128): 40 µs after POWER_UP the flash is AWAKE and the granted operation goes on with its first command;
a wake requested for its own sake ends, and the mount requests the settle (R169). -/
def execWakeIntervalEnd (s : State) : Host.Outcome State Fault Refusal :=
  .next <|
    match s.link.op with
    | some { user := user, op := o, stage := .waking since } =>
      if wakeInterval ≤ s.now - since then
        let t := s.withPower .awake
        (if o = .wake then ((t.withOp none).mountStep .settle).startOp .mount .settle
          else t.firstCommand user o).closeStep
      else s
    | _ => s

/-- WRITE_ENABLE_STATUS (R110): with WEL set the PROGRAM or ERASE is issued and polling begins, an erase with its running time
and its guard from now (R111, R118); with WEL clear, a link fault (R112). -/
def execWriteEnableStatus (st : Byte) (s : State) : Host.Outcome State Fault Refusal :=
  .next <|
    match s.link.op with
    | some { user := user, op := .program addr data, stage := .writeEnable } =>
      (if welFlag st then
          (s.drive [.program addr data, .poll]).setOp user (.program addr data) (.polling s.now)
        else s.enterFault).closeStep
    | some { user := user, op := .erase p, stage := .writeEnable } =>
      (if welFlag st then
          ((s.drive [.erase (physAddr p 0 0), .poll]).setOp user (.erase p) (.polling s.now)).withErasing
            (some { sector := p, user := user, accrued := 0, since := s.now, progress := .running })
        else s.enterFault).closeStep
    | _ => s

/-- PROGRAM_END (R111): a status read with BUSY clear ends the program with its outcome. -/
def execProgramEnd (st : Byte) (s : State) : Host.Outcome State Fault Refusal :=
  .next <|
    match s.link.op with
    | some { user := user, op := .program _ _, stage := .polling _ } =>
      if busyFlag st then s else ((s.withOp none).programOutcome user (failFlag st)).closeStep
    | _ => s

/-- READ_BACK_END (R51, R109): the read-back in progress ends with the bytes it asked for. -/
def execReadBackEnd (bytes : List Byte) (s : State) : Host.Outcome State Fault Refusal :=
  .next <|
    match s.link.op with
    | some { user := user, op := .readBack _ len, stage := .reading } =>
      if bytes.length = len then ((s.withOp none).readBackOutcome user bytes).closeStep else s
    | _ => s

/-- ERASE_END (R111): a status read with BUSY clear, the erase running, ends the erase with its outcome. -/
def execEraseEnd (st : Byte) (s : State) : Host.Outcome State Fault Refusal :=
  .next <|
    match s.link.op, s.link.erasing with
    | some { op := .erase _, stage := .polling _, .. }, some e =>
      if busyFlag st = false ∧ e.progress = .running then (s.endErase e st).closeStep else s
    | _, _ => s

/-- SUSPEND_STATUS (R119): SUSP set and BUSY clear suspends the erase and leaves the link to host reads; both clear is the
erase's outcome status; BUSY set, and polling goes on. -/
def execSuspendStatus (st : Byte) (s : State) : Host.Outcome State Fault Refusal :=
  .next <|
    match s.link.erasing with
    | some e =>
      match e.progress with
      | .suspending _ =>
        if busyFlag st then s
        else if suspFlag st then
          ((s.withOp none).withErasing (some { e with progress := .suspended })).tryResume.closeStep
        else (s.endErase e st).closeStep
      | .running => s
      | .suspended => s
      | .resuming _ => s
    | none => s

/-- RESUME_STATUS (R120): SUSP clear restarts the erase's running time and its guard from the close of RESUME; in a settle,
polling for BUSY clear goes on (R130). SUSP set, and polling goes on. -/
def execResumeStatus (st : Byte) (s : State) : Host.Outcome State Fault Refusal :=
  .next <|
    if suspFlag st then s
    else
      match s.link.op, s.link.erasing with
      | some { user := user, op := .settle, stage := .settling first (some _) }, _ =>
        (s.setOp user .settle (.settling first none)).closeStep
      | _, some e =>
        match e.progress with
        | .resuming since => (s.withErasing (some { e with since := since, progress := .running })).closeStep
        | .running => s
        | .suspending _ => s
        | .suspended => s
      | _, none => s

/-- The wait of an erase for SUSP to show or clear has lasted 200 µs (R119, R120). -/
def EraseProgress.overdue (now : Nat) : EraseProgress → Bool
  | .suspending since => suspendLimit ≤ now - since
  | .resuming since => suspendLimit ≤ now - since
  | .running => false
  | .suspended => false

/-- The wait of a settle for SUSP to clear has lasted 200 µs (R130). -/
def OpStage.overdue (now : Nat) : OpStage → Bool
  | .settling _ (some since) => suspendLimit ≤ now - since
  | .settling _ none => false
  | .waking _ => false
  | .reading => false
  | .writeEnable => false
  | .polling _ => false

/-- The wait after SUSPEND or RESUME, of an erase or of a settle, has lasted 200 µs (R119, R120, R130). -/
def State.suspendOverdue (s : State) : Bool :=
  (s.link.erasing.any fun e => e.progress.overdue s.now) || s.link.op.any fun o => o.stage.overdue s.now

/-- SUSPEND_LATENCY_EXPIRY (R119, R120, R130): 200 µs after SUSPEND or RESUME without the flag awaited, a link fault. -/
def execSuspendLatencyExpiry (s : State) : Host.Outcome State Fault Refusal :=
  .next <| if s.suspendOverdue then s.enterFault.closeStep else s

/-- The flash has been busy for longer than its limit: 4 ms for a program, 600 ms of running time for an erase, 600 ms from its
first STATUS for a settle (R111, R130). -/
def State.busyOverdue (s : State) : Bool :=
  match s.link.op with
  | some { op := .program _ _, stage := .polling since, .. } => programLimit < s.now - since
  | some { op := .erase _, stage := .polling _, .. } =>
    match s.link.erasing with
    | some e => e.progress == .running && eraseLimit < e.runningTime s.now
    | none => false
  | some { op := .settle, stage := .settling first none, .. } => eraseLimit < s.now - first
  | _ => false

/-- BUSY_LIMIT_EXPIRY (R111): a poll finds BUSY set after the limit, a link fault. -/
def execBusyLimitExpiry (s : State) : Host.Outcome State Fault Refusal :=
  .next <| if s.busyOverdue then s.enterFault.closeStep else s

/-- PROGRESS_GUARD_PASSES (R118): the guard having passed with a host read waiting, the erase is suspended. -/
def execProgressGuardPasses (s : State) : Host.Outcome State Fault Refusal :=
  .next <| s.trySuspend.closeStep

end Sys2Proof.Machine
end

