-- ==== Sys2Proof/Machine/Power.lean ====
section
/-! DEFINITION. Power.lean: reset, power, the seal timer and the pins FLUSH and PWRWARNn (chapters 8 and 9.1): RSTN_ASSERT,
POWER_ON, FLUSH_RISING_EDGE, POWER_WARNING_ASSERTION, POWER_WARNING_DEASSERTION, DRAIN_FINISHED, HALTED_POWER_DOWN,
QUIET_COUNT_EXPIRY, HOLD_COUNT_EXPIRY and DOZE_COUNT_EXPIRY. -/

namespace Sys2Proof.Machine

/-- POWER_DOWN issued: the read stream closed first, the power state DOWN (R127, R129). -/
def State.powerDown (s : State) : State :=
  (s.closeStream.drive [.powerDown]).withPower .down

/-- Every block at its reset value, with the causes of reset as given (R148, R5, R9, R40, R43, R69, R89, R94, R108, R149, R164,
R165). The timebase, what has been driven on the link and the waiting commands are no block's state. -/
def State.resetBlocks (s : State) (rstnLow internalReset : Bool) : State :=
  { State.reset with
    now := s.now
    wire := s.wire
    pending := s.pending
    ctl := { ModeControl.reset with rstnLow := rstnLow, internalReset := internalReset } }

/-- RSTN_ASSERT (R148): an open read stream is closed (R124), any cycle stops, and every block takes its reset value. An
internal reset under way goes on. -/
def execRstnAssert (s : State) : Host.Outcome State Fault Refusal :=
  .next (s.closeStream.resetBlocks true s.ctl.internalReset)

/-- POWER_ON (R148, R164): the supply becomes valid; every block takes its reset value and the internal reset begins. -/
def execPowerOn (s : State) : Host.Outcome State Fault Refusal :=
  .next (s.resetBlocks false true)

/-- FLUSH_RISING_EDGE (R154): a seal-all; no edge is taken in reset. -/
def execFlushRisingEdge (s : State) : Host.Outcome State Fault Refusal :=
  .next <| if s.inReset then s else s.sealAll.closeStep

/-- POWER_WARNING_ASSERTION (R155, R156, R158): the level noted; READY becomes DRAIN with a seal-all in the same act and the
drain is tested, READ_ONLY becomes HALTED. -/
def execPowerWarningAssertion (s : State) : Host.Outcome State Fault Refusal :=
  .next <|
    if s.inReset = true ∨ s.ctl.powerWarning = true then s
    else
      let t := s.withCtl { s.ctl with powerWarning := true }
      (match t.ctl.mode with
        | .ready => (t.setMode .drain).sealAll.drainTest
        | .readOnly => t.setMode .halted
        | .mounting => t
        | .formatting => t
        | .drain => t
        | .halted => t
        | .fault => t).closeStep

/-- POWER_WARNING_DEASSERTION (R155, R160): the level noted; DRAIN and HALTED become READY, or READ_ONLY with the latch set. -/
def execPowerWarningDeassertion (s : State) : Host.Outcome State Fault Refusal :=
  .next <|
    if s.inReset = true ∨ s.ctl.powerWarning = false then s
    else
      let t := s.withCtl { s.ctl with powerWarning := false }
      (match t.ctl.mode with
        | .drain => t.setMode (if t.ctl.degraded then .readOnly else .ready)
        | .halted => t.setMode (if t.ctl.degraded then .readOnly else .ready)
        | .mounting => t
        | .formatting => t
        | .ready => t
        | .readOnly => t
        | .fault => t).closeStep

/-- DRAIN_FINISHED (R157): in DRAIN with every slot FREE and the engine idle, the mode becomes HALTED. -/
def execDrainFinished (s : State) : Host.Outcome State Fault Refusal :=
  .next s.drainTest.closeStep

/-- HALTED_POWER_DOWN (R129): in HALTED, with all link work ended, POWER_DOWN is issued. -/
def execHaltedPowerDown (s : State) : Host.Outcome State Fault Refusal :=
  .next <| if s.mayPowerDown then s.powerDown.closeStep else s

/-- A count running since a time has run for its interval (R149). -/
def countDue (count : Option Nat) (intervalMs now : Nat) : Bool :=
  match count with
  | some since => msToUs intervalMs ≤ now - since
  | none => false

/-- QUIET_COUNT_EXPIRY (R153): both counts stop and every FILLING slot is sealed. -/
def execQuietCountExpiry (s : State) : Host.Outcome State Fault Refusal :=
  .next <|
    if countDue s.timer.quiet s.values.quietMs s.now then (s.withTimer .stopped).sealAll.closeStep else s

/-- HOLD_COUNT_EXPIRY (R153): both counts stop and every FILLING slot is sealed. -/
def execHoldCountExpiry (s : State) : Host.Outcome State Fault Refusal :=
  .next <|
    if countDue s.timer.hold s.values.holdMs s.now then (s.withTimer .stopped).sealAll.closeStep else s

/-- DOZE_COUNT_EXPIRY (R127): the stream is closed and POWER_DOWN issued, and the count stops. -/
def execDozeCountExpiry (s : State) : Host.Outcome State Fault Refusal :=
  .next <| if countDue s.link.doze s.values.dozeMs s.now then s.powerDown.closeStep else s

end Sys2Proof.Machine
end

