-- ==== Sys2Proof/Machine/Dispatch.lean ====
section
/-! DEFINITION. Dispatch.lean: the meaning of each command, one arm per constructor. -/

namespace Sys2Proof.Machine

def exec (i : Instr) (s : State) : Host.Outcome State Fault Refusal :=
  match i with
  | .hlatFall had hau => Sys2Proof.Machine.execHlatFall had hau s
  | .dataPhaseStart hdir hlanen had => Sys2Proof.Machine.execDataPhaseStart hdir hlanen had s
  | .dataPhaseEnd => Sys2Proof.Machine.execDataPhaseEnd s
  | .readyHoldLimitExpiry => Sys2Proof.Machine.execReadyHoldLimitExpiry s
  | .waitingWriteRedecide => Sys2Proof.Machine.execWaitingWriteRedecide s
  | .rstnAssert => Sys2Proof.Machine.execRstnAssert s
  | .resetRelease wide fmt svc pwrwarnn => Sys2Proof.Machine.execResetRelease wide fmt svc pwrwarnn s
  | .internalResetEnd wide fmt svc pwrwarnn => Sys2Proof.Machine.execInternalResetEnd wide fmt svc pwrwarnn s
  | .flushRisingEdge => Sys2Proof.Machine.execFlushRisingEdge s
  | .powerWarningAssertion => Sys2Proof.Machine.execPowerWarningAssertion s
  | .powerWarningDeassertion => Sys2Proof.Machine.execPowerWarningDeassertion s
  | .drainFinished => Sys2Proof.Machine.execDrainFinished s
  | .haltedPowerDown => Sys2Proof.Machine.execHaltedPowerDown s
  | .quietCountExpiry => Sys2Proof.Machine.execQuietCountExpiry s
  | .holdCountExpiry => Sys2Proof.Machine.execHoldCountExpiry s
  | .dozeCountExpiry => Sys2Proof.Machine.execDozeCountExpiry s
  | .progressGuardPasses => Sys2Proof.Machine.execProgressGuardPasses s
  | .suspendStatus st => Sys2Proof.Machine.execSuspendStatus st s
  | .resumeStatus st => Sys2Proof.Machine.execResumeStatus st s
  | .suspendLatencyExpiry => Sys2Proof.Machine.execSuspendLatencyExpiry s
  | .busyLimitExpiry => Sys2Proof.Machine.execBusyLimitExpiry s
  | .linkGrant => Sys2Proof.Machine.execLinkGrant s
  | .wakeIntervalEnd => Sys2Proof.Machine.execWakeIntervalEnd s
  | .writeEnableStatus st => Sys2Proof.Machine.execWriteEnableStatus st s
  | .hostReadRunEnd bytes => Sys2Proof.Machine.execHostReadRunEnd bytes s
  | .pageReadEnd bytes => Sys2Proof.Machine.execPageReadEnd bytes s
  | .programEnd st => Sys2Proof.Machine.execProgramEnd st s
  | .readBackEnd bytes => Sys2Proof.Machine.execReadBackEnd bytes s
  | .eraseEnd st => Sys2Proof.Machine.execEraseEnd st s
  | .journalNextRequest => Sys2Proof.Machine.execJournalNextRequest s
  | .commitTake => Sys2Proof.Machine.execCommitTake s
  | .eraseEngineRequest => Sys2Proof.Machine.execEraseEngineRequest s
  | .identifyEnd b0 b1 b2 => Sys2Proof.Machine.execIdentifyEnd b0 b1 b2 s
  | .settleEnd st => Sys2Proof.Machine.execSettleEnd st s
  | .mountReadEnd bytes => Sys2Proof.Machine.execMountReadEnd bytes s
  | .powerOn => Sys2Proof.Machine.execPowerOn s

end Sys2Proof.Machine
end

