-- ==== Sys2Proof/Machine/Step.lean ====
section
/-! DEFINITION. Step.lean: one step of the bridge, and a command put at the front of its queue. -/

namespace Sys2Proof.Machine

/-- One microsecond of the timebase passes (log entry 1). -/
def State.tick (s : State) : State :=
  { s with now := s.now + 1 }

/-- One step: the command at the front of the queue runs on the state with the queue's rest; on an empty queue the timebase
advances by 1 µs in place of idling (log entry 1). -/
def step (s : State) : Host.Outcome State Fault Refusal :=
  match s.pending with
  | c :: rest => exec c (s.withPending rest)
  | [] => .next s.tick

/-- The state with the command that a word spells put at the front of its queue; unchanged where the word spells none. -/
def State.withFetchWord (s : State) (nbits w : Nat) : State :=
  match decodeTableWord nbits w with
  | some c => s.withPending (c :: s.pending)
  | none => s

end Sys2Proof.Machine
end

