-- ==== Sys2Proof/Safety.lean ====
section
/-! DEFINITION. Safety.lean: what holds of the bridge in every condition it can be in: the laws that every step keeps. -/

namespace Sys2Proof.Machine

/-- While RSTn is low or the internal reset runs, every block holds its reset value and the mode is MOUNTING (R148, R164,
R165, R168). The straps and the power-warning level, sampled when one of the two causes of reset ends, are outside it. -/
structure State.ResetLaw (s : State) : Prop where
  port : s.inReset = true → s.port = .reset
  staging : s.inReset = true → s.staging = .reset
  heldRun : s.inReset = true → s.heldRun = none
  timer : s.inReset = true → s.timer = .stopped
  engine : s.inReset = true → s.engine = .reset
  tables : s.inReset = true → s.tables = .reset
  journal : s.inReset = true → s.journal = .reset
  pool : s.inReset = true → s.pool = .reset
  link : s.inReset = true → s.link = .reset
  values : s.inReset = true → s.values = .default
  mode : s.inReset = true → s.ctl.mode = .mounting
  degraded : s.inReset = true → s.ctl.degraded = false
  mount : s.inReset = true → s.ctl.mount = none

/-- The mode, the latch and the power-warning level agree: with the latch set the mode is neither READY nor DRAIN (R165);
READY and READ_ONLY are held with the warning deasserted, DRAIN and HALTED with it asserted (R156, R158, R160, R161); a mount
record exists in MOUNTING and FORMATTING only (R168). -/
structure State.ModeLaw (s : State) : Prop where
  degraded : s.ctl.degraded = true → s.ctl.mode ≠ .ready ∧ s.ctl.mode ≠ .drain
  deasserted : s.ctl.mode = .ready ∨ s.ctl.mode = .readOnly → s.ctl.powerWarning = false
  asserted : s.ctl.mode = .drain ∨ s.ctl.mode = .halted → s.ctl.powerWarning = true
  mount : s.ctl.mount.isSome = true → s.ctl.mode.isMount = true

/-- The host port's pins show the condition of its cycle: HWAITn low exactly while a cycle is held, HFAILn low exactly while one
is answered with an error, a lane driven only for an answered read and the high lane only in a 16-bit port (R133, R134, R136,
R145). A write waits in the staging buffer exactly while its cycle waits, and in READY only (R25, R27); a cycle is held for the
mount in MOUNTING and FORMATTING only (R138). -/
structure State.PortLaw (s : State) : Prop where
  hwaitn : s.port.hwaitn = !(s.port.cycle.any fun c => c.cond.held)
  hfailn : s.port.hfailn = !(s.port.cycle.any fun c => c.cond == .answeredError)
  driven : s.port.hadLow.isSome = true ∨ s.port.hadHigh.isSome = true →
    ∃ c, s.port.cycle = some c ∧ c.isRead = true ∧ c.cond.held = false
  wide : s.port.hadHigh.isSome = true → s.ctl.wide = true
  waiting : s.staging.waiting.isSome = s.port.cycle.any fun c => c.cond == .writeWaiting
  ready : s.staging.waiting.isSome = true → s.ctl.mode = .ready
  heldForMount : (s.port.cycle.any fun c => c.cond == .heldForMount) = true → s.ctl.mode.isMount = true

/-- The link's record agrees with itself: no operation and no erase while the flash needs a wake; WAKING exactly during a wake
interval; an erase under way is the operation in progress and polling, or suspended with no operation or a host read run in
progress (R108, R119, R120, R128). A grant stands on a link with no operation in progress, for a request that stands outstanding,
and commits a host read run (R115, R117); a free link with no grant has no request outstanding but below a step that is due (R115),
and a suspension with no run in progress has a run granted, so that it never stands without one to serve (R120). -/
structure State.LinkLaw (s : State) : Prop where
  asleep : s.link.power.needsWake = true → s.link.op = none ∧ s.link.erasing = none
  waking : s.link.power = .waking ↔ ∃ o since, s.link.op = some o ∧ o.stage = .waking since
  suspended : ∀ e, s.link.erasing = some e → e.progress = .suspended →
    s.link.op = none ∨ ∃ o r a, s.link.op = some o ∧ o.op = .hostRun r a ∧ o.stage = .reading
  running : ∀ e, s.link.erasing = some e → e.progress ≠ .suspended →
    ∃ o since, s.link.op = some o ∧ o.user = e.user ∧ o.op = .erase e.sector ∧ o.stage = .polling since
  granted : ∀ l, s.link.granted = some l →
    s.link.op = none ∧ s.link.requests.holds l = true ∧ (s.link.suspended = true → l = .hostRead)
  committed : ∀ r, s.link.granted = some .hostRead → s.link.requests.hostRead = some r → r.committed = true
  free : s.link.op = none → s.link.suspended = false → s.link.granted = none → ∀ l, s.link.requests.holds l = true →
    ∃ k, k.above l = true ∧ s.dueAt k = true
  served : s.link.op = none → s.link.suspended = true → s.link.granted = some .hostRead

/-- The doze count runs exactly while all of its conditions hold (R126). -/
def State.DozeLaw (s : State) : Prop :=
  s.link.doze.isSome = s.mayDoze

/-- The laws of reset, mode, port, link and doze count together. -/
structure State.Sound (s : State) : Prop where
  reset : s.ResetLaw
  mode : s.ModeLaw
  port : s.PortLaw
  link : s.LinkLaw
  doze : s.DozeLaw

/-- The laws of the staging buffer and the job (R18, R19, R20, R30, R31, R44): a slot has a page unless it is FREE, and a rank
exactly while FILLING, and a FREE slot has nothing written; the queue holds each SEALED slot once; the ranks of the FILLING slots
lie between 1 and their number, each held once; the COMMITTING slots are the job's, each once; a page has at most one open slot and at most
one COMMITTING slot; and a job that waits for the RETIRE of its source holds no slot. -/
structure State.StagingLaw (s : State) : Prop where
  page : ∀ i < 16, (s.staging.slot i).page = none ↔ (s.staging.slot i).state = .free
  rank : ∀ i < 16, (s.staging.slot i).rank.isSome = true ↔ (s.staging.slot i).state = .filling
  written : ∀ i < 16, (s.staging.slot i).state = .free → (s.staging.slot i).written = Vector.replicate _ false
  queue : ∀ i, i ∈ s.staging.queue ↔ i < 16 ∧ (s.staging.slot i).state = .sealed
  queueNodup : s.staging.queue.Nodup
  rankBound : ∀ i < 16, ∀ r, (s.staging.slot i).rank = some r → 1 ≤ r ∧ r ≤ s.staging.count .filling
  rankOnce : ∀ i < 16, ∀ k < 16, (s.staging.slot i).rank.isSome = true →
    (s.staging.slot i).rank = (s.staging.slot k).rank → i = k
  job : ∀ i, (∃ j, s.engine.job = some j ∧ i ∈ j.slots) ↔ i < 16 ∧ (s.staging.slot i).state = .committing
  jobNodup : ∀ j, s.engine.job = some j → j.slots.Nodup
  openOnce : ∀ i < 16, ∀ k < 16, (s.staging.slot i).isOpen = true → (s.staging.slot k).isOpen = true →
    (s.staging.slot i).page = (s.staging.slot k).page → i = k
  committingOnce : ∀ i < 16, ∀ k < 16, (s.staging.slot i).state = .committing → (s.staging.slot k).state = .committing →
    (s.staging.slot i).page = (s.staging.slot k).page → i = k
  source : ∀ j, s.engine.job = some j → j.awaited = some .retireSource → j.slots = []

/-! ## The laws of the tables -/

/-- The tables are held: the map is in force, or a mount has installed the tables and reads the record (R3, R176, R178). -/
def State.tablesHeld (s : State) : Prop :=
  s.ctl.mode.inForce = true ∨
    (s.ctl.mode.isMount = true ∧ ∃ m, s.ctl.mount = some m ∧ m.format = none ∧ m.step = .record)

/-- The laws of the sector map, the physical sector table and the spare list while the tables are held (R3, R4, R6, R7, R8, R14,
R87): each logical sector's entry names a data sector that is MAPPED with it as owner, which makes the map injective, and no other
sector is MAPPED; the journal sectors alone are JOURNAL, and every data sector has a state; TARGET is the job's target alone; the
spare list holds each clean and dirty spare once; a sector is retire pending while a RETIRE of it stands in the journal's list; the
retired and the pending sectors are at most 64 together. -/
structure State.TableLaw (s : State) : Prop where
  entry : s.tablesHeld → ∀ l < 256, ∃ p, 8 ≤ p ∧ p < 512 ∧ s.tables.entry l = some p ∧
    (s.tables.record p).state = some .mapped ∧ (s.tables.record p).owner = some l
  mapped : s.tablesHeld → ∀ p < 512, (s.tables.record p).state = some .mapped → ∃ l < 256, s.tables.entry l = some p
  states : s.tablesHeld → ∀ p < 512, (s.tables.record p).state ≠ none ∧ ((s.tables.record p).state = some .journal ↔ p < 8)
  owner : s.tablesHeld → ∀ p < 512, (s.tables.record p).owner ≠ none →
    (s.tables.record p).state = some .mapped ∨ (s.tables.record p).state = some .target
  target : s.tablesHeld → ∀ p, (p < 512 ∧ (s.tables.record p).state = some .target) ↔
    ∃ j, s.engine.job = some j ∧ j.target = some p
  targetOwner : s.tablesHeld → ∀ j p, s.engine.job = some j → j.target = some p →
    (s.tables.record p).owner = some j.logical
  spares : s.tablesHeld → ∀ p, p ∈ s.pool.spares ↔ p < 512 ∧
    ((s.tables.record p).state = some .spareClean ∨ (s.tables.record p).state = some .spareDirty)
  sparesOnce : s.tablesHeld → s.pool.spares.Nodup
  pending : s.tablesHeld → ∀ p < 512, (s.tables.record p).retirePending = true ↔
    ∃ who cause, JournalRequest.append who (.retire p cause) ∈ s.journal.requests
  cap : s.tablesHeld → s.tables.retiredCount + s.tables.pendingCount ≤ 64

/-- Sector p is a dirty spare whose retirement is not asked for. -/
def State.eligibleDirty (s : State) (p : Nat) : Prop :=
  p < 512 ∧ (s.tables.record p).state = some .spareDirty ∧ (s.tables.record p).retirePending = false

/-- The job's logical sector is mapped to its source (R11). -/
def State.sourceMapped (s : State) (j : Job) : Prop :=
  j.logical < 256 ∧ s.tables.entry j.logical = some j.source

/-- An erase of sector p for a requester is on the link, running or suspended. -/
def State.erasesFor (s : State) (user : LinkUser) (p : Nat) : Prop :=
  (∃ stage, s.link.op = some { user := user, op := .erase p, stage := stage }) ∨
    ∃ e, s.link.erasing = some e ∧ e.user = user ∧ e.sector = p

/-- The commit engine has an operation in progress on the link. -/
def State.engineOnLink (s : State) (o : FlashOp) : Prop :=
  (∃ stage, s.link.op = some { user := .commitEngine, op := o, stage := stage }) ∨
    ∃ e, s.link.erasing = some e ∧ e.user = .commitEngine ∧ o = .erase e.sector

/-- An operation of the commit engine is one that the job, as it stands, asks for (R46, R48, R50, R55, R56). -/
def Job.asksFor (j : Job) : FlashOp → Prop
  | .erase _ => j.kind = .relocate ∧ j.target = none
  | .pageRead _ =>
    (j.phase = .decide → j.kind = .undecided) ∧ (j.phase = .programInPlace → j.kind = .inPlace) ∧
      (j.phase = .copy → j.kind = .relocate) ∧ (j.kind = .relocate ↔ j.target ≠ none)
  | .program _ _ => j.kind ≠ .undecided ∧ (j.kind = .relocate ↔ j.target ≠ none)
  | .readBack _ _ => j.kind ≠ .undecided ∧ (j.kind = .relocate ↔ j.target ≠ none)
  | .hostRun _ _ => False
  | .wake => False
  | .identify => False
  | .mountRead _ _ => False
  | .settle => False

/-- An append in the journal's list is one that its requester, as it stands, waits for (R55, R57, R59, R60, R94). -/
def State.waitsFor (s : State) : Requester → Payload → Prop
  | .commitEngine, .remap l new old _ =>
    ∃ j, s.engine.job = some j ∧ j.logical = l ∧ j.source = old ∧ j.target = some new ∧ s.sourceMapped j
  | .commitEngine, .retire p _ =>
    ∃ j, s.engine.job = some j ∧
      (j.awaited = some .retireTarget ∧ j.kind = .relocate ∧ j.target = some p ∧ s.sourceMapped j ∨
        j.awaited = some .retireSpare ∧ j.kind = .relocate ∧ j.target = none ∧ s.sourceMapped j ∧ p ∈ s.pool.spares ∨
        j.awaited = some .retireSource ∧ j.target = none ∧ p ∈ s.pool.spares)
  | .eraseEngine, .retire p _ => s.pool.eraser = .retiring p ∧ p ∈ s.pool.spares
  | .eraseEngine, .remap _ _ _ _ => False

/-- The working map and retired set of a mount record are those of a consistent checkpoint (R172). -/
structure MountRecord.Consistent (m : MountRecord) : Prop where
  whole : m.workMap.length = 256
  once : m.workMap.Nodup
  data : ∀ p ∈ m.workMap, isDataSector p = true
  apart : ∀ p ∈ m.workRetired, isDataSector p = true ∧ p ∉ m.workMap
  cap : m.workRetired.length ≤ 64

/-- What the blocks have under way agrees with the tables, so that its end keeps their laws: the pages of the window (R1, R18);
the commit engine's operations and its job (R43, R46); the erases of spares (R92, R96); the journal's list, at most one request
from each requester (R75), with what each waits for; the openings (R67); and in MOUNTING and FORMATTING no job, no request and an
idle erase engine (R43, R69, R94), the working tables consistent once REPLAY has ended (R172 to R176, R180). -/
structure State.WorkLaw (s : State) : Prop where
  pages : ∀ i p, (s.staging.slot i).page = some p → p < 4096
  waitingPage : ∀ w, s.staging.waiting = some w → w.page < 4096
  engine : ∀ o, s.engineOnLink o ∨ s.link.requests.commit = some (.commitEngine, o) →
    (∃ j, s.engine.job = some j ∧ s.sourceMapped j ∧ j.asksFor o) ∧
      ∀ e, JournalRequest.append .commitEngine e ∉ s.journal.requests
  engineOnce : ∀ o, s.engineOnLink o → s.link.requests.commit = none
  engineErase : ∀ p, s.erasesFor .commitEngine p → s.eligibleDirty p
  eraserErase : ∀ p, s.pool.eraser = .erasingSpare p → s.erasesFor .eraseEngine p ∧ s.eligibleDirty p
  requesting : s.link.requests.erase = true → s.pool.eraser = .requesting
  appends : ∀ who e, JournalRequest.append who e ∈ s.journal.requests → s.waitsFor who e
  records : ∀ j, JournalRequest.record j ∈ s.journal.requests → s.pool.eraser = .recording j
  oneEach : ∀ who, (s.journal.requests.filter fun q => q.requester == who).length ≤ 1
  sectorsApart : ∀ p c d, JournalRequest.append .commitEngine (.retire p c) ∈ s.journal.requests →
    JournalRequest.append .eraseEngine (.retire p d) ∉ s.journal.requests
  recording : ∀ o, s.journal.opening = some o → o.purpose = .recording → ∃ j rest, s.journal.requests = .record j :: rest
  openingInForce : ∀ o, s.ctl.mode.inForce = true → s.journal.opening = some o → o.purpose.isMount = false
  mountIdle : s.ctl.mode.isMount = true → s.engine.job = none ∧ s.journal.requests = [] ∧ s.pool.eraser = .idle
  mountOpening : ∀ o, s.ctl.mode.isMount = true → s.journal.opening = some o → o.purpose.isMount = true →
    ∃ m, s.ctl.mount = some m ∧ m.Consistent ∧ (m.format = some .opening ∨ m.format = none ∧ m.step = .opening) ∧
      ∀ x, s.link.op = some x → x.op ≠ .wake ∧ x.op ≠ .settle ∧ x.op ≠ .identify
  mountInstall : ∀ m, s.ctl.mount = some m → m.format = none → m.step = .install → m.Consistent

/-! ## The terms of the statements -/

/-- The port once cycle c is answered with an error (R145): HWAITn high, HFAILn low, a read's lanes of the port's width all
ones. -/
def HostPort.refused (h : HostPort) (c : Cycle) (wide : Bool) : HostPort :=
  { h with
    cycle := some { c with cond := .answeredError }
    hwaitn := true
    hfailn := false
    hadLow := if c.isRead then some 0xFF else h.hadLow
    hadHigh := if c.isRead && wide then some 0xFF else h.hadHigh }

/-- The port once a write cycle c is answered normally (R145): HWAITn high, no lane driven by it (R136). -/
def HostPort.accepted (h : HostPort) (c : Cycle) : HostPort :=
  { h with cycle := some { c with cond := .answered }, hwaitn := true }

/-- A write to a page is let through by the record lock and the protected ranges (R139, R140). -/
def State.writeAllowed (s : State) (c : Cycle) : Prop :=
  ¬(s.values.lock = true ∧ s.ctl.svc = false ∧ ∃ b ∈ c.bytes, b.addr.toNat ≤ 0x3F) ∧
    ¬(s.ctl.svc = false ∧ ∃ r ∈ s.values.ranges, r.1 ≤ c.addr.toNat / 4096 ∧ c.addr.toNat / 4096 ≤ r.2)

/-- What offset o of a slot holds once the cycle's bytes are put into a slot that held value and flag x there (R22). -/
def putAt (bytes : List CycleByte) (o : Nat) (x : Option Byte × Option Bool) : Option Byte × Option Bool :=
  match bytes.find? fun b => b.addr.toNat % 256 == o with
  | some b => (some b.data, some true)
  | none => x

/-- h is g after a seal-all (R29): every FILLING slot SEALED without rank, its page, data and written map as they were, the
other slots and the waiting write untouched, and the sealed slots at the queue's tail in rank order. -/
structure Staging.SealedAll (g h : Staging) : Prop where
  sealed : ∀ i < 16, (g.slot i).state = .filling → h.slot i = { g.slot i with state := .sealed, rank := none }
  others : ∀ i < 16, (g.slot i).state ≠ .filling → h.slot i = g.slot i
  waiting : h.waiting = g.waiting
  queue : ∃ l, h.queue = g.queue ++ l ∧ (∀ i, i ∈ l ↔ i < 16 ∧ (g.slot i).state = .filling) ∧
    l.Pairwise fun i k => (g.slot i).rank.getD 0 < (g.slot k).rank.getD 0

/-- s with the degraded latch set (R165): READY becomes READ_ONLY and DRAIN HALTED; on leaving READY a waiting write is withdrawn and
its cycle error-terminated (R27), and a request of the erase engine withdrawn (R95). A latch already set changes nothing. -/
def State.latched (s : State) : State :=
  if s.ctl.degraded then s
  else
    { s with
      port :=
        match s.ctl.mode, s.staging.waiting, s.port.cycle with
        | .ready, some _, some c => s.port.refused c s.ctl.wide
        | _, _, _ => s.port
      staging := { s.staging with waiting := if s.ctl.mode = .ready then none else s.staging.waiting }
      pool := { s.pool with eraser := if s.ctl.mode = .ready ∧ s.pool.eraser = .requesting then .idle else s.pool.eraser }
      link :=
        { s.link with
          requests :=
            { s.link.requests with
              erase := if s.ctl.mode = .ready ∧ s.pool.eraser = .requesting then false else s.link.requests.erase } }
      ctl :=
        { s.ctl with
          degraded := true
          mode := if s.ctl.mode = .ready then .readOnly else if s.ctl.mode = .drain then .halted else s.ctl.mode } }

/-- Slot i is the job's slot for page k of its sector (R44). -/
def State.holdsPage (s : State) (j : Job) (k i : Nat) : Prop :=
  i ∈ j.slots ∧ (s.staging.slot i).page.map (· % 16) = some k

/-- The job has one slot for each of its pages (R31, R44). -/
def State.onePerPage (s : State) (j : Job) : Prop :=
  ∀ i ∈ j.slots, ∀ k ∈ j.slots, (s.staging.slot i).page.map (· % 16) = (s.staging.slot k).page.map (· % 16) → i = k

/-- p is the first page of the job from page k on (R48, R50). -/
def State.firstPage (s : State) (j : Job) (k p : Nat) : Prop :=
  k ≤ p ∧ p < 16 ∧ (∃ i, s.holdsPage j p i) ∧ ∀ q, k ≤ q → q < p → ∀ i, ¬s.holdsPage j q i

/-- The job has no page from page k on. -/
def State.noPage (s : State) (j : Job) (k : Nat) : Prop :=
  ∀ q, k ≤ q → q < 16 → ∀ i, ¬s.holdsPage j q i

/-- image is the merged image of the job's page k over the bytes read (R46): where the page's slot has a byte that byte, elsewhere
the byte read. -/
structure State.Merged (s : State) (j : Job) (k : Nat) (bytes image : List Byte) : Prop where
  length : image.length = 256
  slot : ∀ i o v, o < 256 → s.holdsPage j k i → (s.staging.slot i).byte o = some v → image[o]? = some v
  read : ∀ o < 256, (∀ i, s.holdsPage j k i → (s.staging.slot i).byte o = none) → image[o]? = bytes[o]?

/-- The commit engine's operation ended, its job and work page as given, and its next operation asked for at commit priority
(R46, R114). -/
def State.engineAsks (s : State) (job : Job) (workPage : List Byte) (o : FlashOp) : State :=
  { s with
    engine := { job := some job, workPage := workPage }
    link := { s.link with op := none, requests := { s.link.requests with commit := some (.commitEngine, o) } } }

/-- t is s after job j is abandoned (R61): its slots back at the head of the queue, SEALED, each page's newer open slot absorbed
(R34, R35), so that every byte reads as before; its target a dirty spare at the tail of the list (R16). -/
structure State.JobAbandoned (s t : State) (j : Job) : Prop where
  frame : t = { s with
    engine := { s.engine with job := none }, staging := t.staging, timer := t.timer, tables := t.tables, pool := t.pool }
  target : ∀ p, j.target = some p →
    t.tables = s.tables.setRecord p
      { s.tables.record p with state := some .spareDirty, owner := none, retirePending := false } ∧
    t.pool = { s.pool with spares := s.pool.spares ++ [p] }
  noTarget : j.target = none → t.tables = s.tables ∧ t.pool = s.pool
  returned : ∀ i ∈ j.slots, ∀ page, (s.staging.slot i).page = some page →
    (t.staging.slot i).state = .sealed ∧ (t.staging.slot i).page = some page ∧ (t.staging.slot i).rank = none ∧
      ∀ o < 256, (t.staging.slot i).byte o = s.staging.layeredByte page o
  absorbed : ∀ k < 16, (s.staging.slot k).isOpen = true → (∃ i ∈ j.slots, (s.staging.slot i).page = (s.staging.slot k).page) →
    (t.staging.slot k).state = .free ∧ k ∉ t.staging.queue
  others : ∀ k < 16, k ∉ j.slots → (∀ i ∈ j.slots, (s.staging.slot i).page ≠ (s.staging.slot k).page) →
    (t.staging.slot k).state = (s.staging.slot k).state ∧ (t.staging.slot k).page = (s.staging.slot k).page ∧
      (t.staging.slot k).data = (s.staging.slot k).data ∧ (t.staging.slot k).written = (s.staging.slot k).written
  queue : ∃ rest, t.staging.queue = j.slots ++ rest ∧ rest.Sublist s.staging.queue ∧
    ∀ k ∈ s.staging.queue, (∀ i ∈ j.slots, (s.staging.slot i).page ≠ (s.staging.slot k).page) → k ∈ rest
  timer : t.timer = if s.staging.count .filling ≠ 0 ∧ t.staging.count .filling = 0 then .stopped else s.timer
  waiting : t.staging.waiting = s.staging.waiting

/-- p is the first sector of the spare list in a state whose retirement is not asked for (R90). -/
def State.firstSpare (s : State) (st : SectorState) (p : Nat) : Prop :=
  ∃ before after, s.pool.spares = before ++ p :: after ∧ (s.tables.record p).state = some st ∧
    (s.tables.record p).retirePending = false ∧
    ∀ q ∈ before, (s.tables.record q).state = some st → (s.tables.record q).retirePending = true

/-- The spare list has no sector in a state whose retirement is not asked for (R90). -/
def State.noSpare (s : State) (st : SectorState) : Prop :=
  ∀ q ∈ s.pool.spares, (s.tables.record q).state = some st → (s.tables.record q).retirePending = true

/-- t is s after the target request of its job j is answered (R90): the first clean spare allocated and the copy begun (R12, R54,
R56); or the first dirty one to be erased (R55); or no answer yet; or, with the latch set, refused and the job abandoned (R54). -/
structure State.TargetAnswered (s t : State) (j : Job) : Prop where
  clean : ∀ p, s.ctl.degraded = false → s.firstSpare .spareClean p →
    t = { s with
      tables := s.tables.setRecord p { s.tables.record p with state := some .target, owner := some j.logical }
      pool := { s.pool with spares := s.pool.spares.filter (· != p) }
      engine := { s.engine with job := some { j with target := some p, cursor := 0, phase := .copy, awaited := none } }
      link :=
        { s.link with
          requests := { s.link.requests with commit := some (.commitEngine, .pageRead (j.source * 4096)) } } }
  dirty : ∀ p, s.ctl.degraded = false → s.noSpare .spareClean → s.firstSpare .spareDirty p →
    t = { s with
      engine := { s.engine with job := some { j with phase := .allocate, awaited := none } }
      link := { s.link with requests := { s.link.requests with commit := some (.commitEngine, .erase p) } } }
  waits : s.ctl.degraded = false → s.noSpare .spareClean → s.noSpare .spareDirty →
    t = { s with engine := { s.engine with job := some { j with phase := .allocate, awaited := none } } }
  refused : s.ctl.degraded = true → s.JobAbandoned t j

/-- t is s, which has no job, after a take that its queue grants (R31, R44, R45): the head of the queue and every other queued slot
of its sector COMMITTING and out of the queue, the job holding them in page order, its source the map's sector. With in-place
commits allowed the first job page is asked for (R48); under RELOCATE_ONLY the job is a relocation, and a target asked for (R47). -/
def State.JobTaken (s t : State) : Prop :=
  ∀ i l page p rest, s.staging.queue = i :: rest → (s.staging.slot i).page = some page → l = page / 16 →
    s.tables.entry l = some p →
    ∃ j g, j.logical = l ∧ j.source = p ∧ j.target = none ∧ j.attempt = 1 ∧ j.fallback = none ∧ j.awaited = none ∧
      (∀ k, k ∈ j.slots ↔ k ∈ s.staging.queue ∧ ∃ q, (s.staging.slot k).page = some q ∧ q / 16 = l) ∧
      (j.slots.Pairwise fun a b => (s.staging.slot a).page.getD 0 < (s.staging.slot b).page.getD 0) ∧
      g = { s.staging with slots := g.slots, queue := s.staging.queue.filter (fun k => k ∉ j.slots) } ∧
      (∀ k < 16, g.slot k = if k ∈ j.slots then { s.staging.slot k with state := .committing } else s.staging.slot k) ∧
      (s.values.inPlaceAllowed = true → j.kind = .undecided ∧ j.phase = .decide ∧
        (∃ a q, j.slots.head? = some a ∧ (s.staging.slot a).page = some q ∧ j.cursor = q % 16) ∧
        t = { s with
          engine := { s.engine with job := some j }, staging := g
          link :=
            { s.link with
              requests := { s.link.requests with commit := some (.commitEngine, .pageRead (p * 4096 + j.cursor * 256)) } } }) ∧
      (s.values.inPlaceAllowed = false → j.kind = .relocate ∧ j.phase = .allocate ∧ j.cursor = 0 ∧
        ({ s with engine := { s.engine with job := some j }, staging := g } : State).TargetAnswered t j)

/-- t is s after its job ends in FINISH (R60): the record is discarded; a finished drain becomes HALTED (R157); else in READY and DRAIN
the next take is asked for, which an empty queue refuses (R45). That it
comes before the re-decision of a waiting write is the model's choice (log entry 31). -/
structure State.JobEnded (s t : State) : Prop where
  halted : s.ctl.mode = .drain → (∀ i < 16, (s.staging.slot i).state = .free) →
    t = { s with engine := { s.engine with job := none }, ctl := { s.ctl with mode := .halted } }
  idle : s.ctl.mode ≠ .ready → s.ctl.mode ≠ .drain → t = { s with engine := { s.engine with job := none } }
  refused : s.ctl.mode = .ready ∨ s.ctl.mode = .drain ∧ (∃ i < 16, (s.staging.slot i).state ≠ .free) → s.staging.queue = [] →
    t = { s with engine := { s.engine with job := none } }
  taken : s.ctl.mode = .ready ∨ s.ctl.mode = .drain ∧ (∃ i < 16, (s.staging.slot i).state ≠ .free) → s.staging.queue ≠ [] →
    ({ s with engine := { s.engine with job := none } } : State).JobTaken t

/-- The erase engine has work (R95): an eligible dirty spare, or a usable journal sector with its pending erase flag set. -/
def State.hasEraseWork (s : State) : Prop :=
  (∃ p ∈ s.pool.spares, (s.tables.record p).state = some .spareDirty ∧ (s.tables.record p).retirePending = false) ∨
    ∃ j < 8, s.tables.usable j = true ∧ flagAt s.journal.pendingErase j = true

/-- t is s after the erase engine's turn ends (R94, R95, R115): with work in READY it requests the link again, else it is idle. -/
structure State.TurnEnded (s t : State) : Prop where
  again : s.ctl.mode = .ready → s.hasEraseWork →
    t = { s with
      pool := { s.pool with eraser := .requesting }
      link := { s.link with requests := { s.link.requests with erase := true } } }
  idle : s.ctl.mode ≠ .ready ∨ ¬s.hasEraseWork → t = { s with pool := { s.pool with eraser := .idle } }

/-! ### The journal's requests and openings -/

/-- Sector j withdrawn from the journal (R83): its usable flag cleared, and with fewer than three usable the latch set. -/
def State.withdrawn (s : State) (j : Nat) : State :=
  let t := { s with tables := s.tables.setRecord j { s.tables.record j with usable := false } }
  if (List.range 8).countP (fun k => t.tables.usable k) < 3 then t.latched else t

/-- An operation of the journal asked for, at the level of the requester it works for (R75, R114). -/
def State.journalAsks (s : State) (who : Requester) (o : FlashOp) : State :=
  { s with
    link :=
      { s.link with
        requests :=
          match who with
          | .commitEngine => { s.link.requests with commit := some (.journal, o) }
          | .eraseEngine => { s.link.requests with eraseJournal := some o } } }

/-- t is s after the first request of the journal's list fails and its requester acts on that (R77): a failed REMAP, or RETIRE of a
target or a spare, abandons the job (R55, R57, R59); a failed RETIRE of a source ends it (R60); a RETIRE's pending flag is cleared
(R8); the erase engine's turn ends (R97, R99). -/
structure State.RequestFailed (s t : State) : Prop where
  remap : ∀ l new old cause rest j, s.journal.requests = .append .commitEngine (.remap l new old cause) :: rest →
    s.engine.job = some j →
    ({ s with journal := { s.journal with requests := rest, activity := .idle, opening := none } } : State).JobAbandoned t j
  retire : ∀ p cause rest j, s.journal.requests = .append .commitEngine (.retire p cause) :: rest → s.engine.job = some j →
    let ended : State :=
      { s with
        tables := s.tables.setRecord p { s.tables.record p with retirePending := false }
        journal := { s.journal with requests := rest, activity := .idle, opening := none } }
    (j.awaited ≠ some .retireSource → ended.JobAbandoned t j) ∧ (j.awaited = some .retireSource → ended.JobEnded t)
  eraseEngine : ∀ p cause rest, s.journal.requests = .append .eraseEngine (.retire p cause) :: rest →
    ({ s with
      tables := s.tables.setRecord p { s.tables.record p with retirePending := false }
      journal := { s.journal with requests := rest, activity := .idle, opening := none } } : State).TurnEnded t
  record : ∀ j rest, s.journal.requests = .record j :: rest →
    ({ s with journal := { s.journal with requests := rest, activity := .idle, opening := none } } : State).TurnEnded t

/-- t is s after candidate c is taken for an opening (R79): with its pending erase flag set, or as the previous sector, it is to be
erased; else its HEAD is to be written at once (R81). -/
structure State.CandidateTaken (s t : State) (purpose : OpenPurpose) (number c : Nat) (who : Requester) : Prop where
  erased : flagAt s.journal.pendingErase c = true ∨ s.journal.previous = some c →
    t = ({ s with
      journal :=
        { s.journal with
          activity := .opening
          opening := some { purpose := purpose, candidate := c, number := number, stage := .erase, images := [] } } } :
            State).journalAsks who (.erase c)
  written : flagAt s.journal.pendingErase c = false → s.journal.previous ≠ some c →
    t = ({ s with
      journal :=
        { s.journal with
          activity := .opening
          opening := some { purpose := purpose, candidate := c, number := number, stage := .program 0, images := [] } } } :
            State).journalAsks who (.program (c * 4096) (headImage number c))

/-- c is the next usable journal sector after sector a (R68). -/
def State.nextSector (s : State) (a c : Nat) : Prop :=
  ∃ d, 1 ≤ d ∧ d ≤ 7 ∧ c = (a + d) % 8 ∧ s.tables.usable c = true ∧ ∀ k, 1 ≤ k → k < d → s.tables.usable ((a + k) % 8) = false

/-- t is s after an opening is asked for, the map in force (R79, R80): the next usable sector after the active one taken as candidate,
for the next sequence number; or, that being 0xFFFFFFFF, sequence exhaustion reported and the request failed. -/
structure State.OpeningBegun (s t : State) (purpose : OpenPurpose) (who : Requester) : Prop where
  candidate : ∀ a c n, s.journal.active = some a → s.journal.sequence = some n → n ≠ 0xFFFFFFFE → s.nextSector a c →
    s.CandidateTaken t purpose (n + 1) c who
  exhausted : ∀ a, s.journal.active = some a → s.journal.sequence = some 0xFFFFFFFE → s.latched.RequestFailed t

/-- t is s after the journal begins the first request of its list (R75): an append programmed at the append position of a usable
active sector (R76); for a full one a sector opened, unless the latch is set; with the active one unusable failed (R77); an opening
to record a withdrawal, dropped with the latch set (R77, R84). -/
structure State.RequestBegun (s t : State) : Prop where
  appends : ∀ who e rest a q, s.journal.requests = .append who e :: rest → s.journal.active = some a → s.tables.usable a = true →
    s.journal.appendPos = some q → q ≤ 255 →
    t = ({ s with journal := { s.journal with activity := .appending, opening := none } } : State).journalAsks who
      (.program (a * 4096 + q * 16) (payloadImage e))
  opens : ∀ who e rest a, s.journal.requests = .append who e :: rest → s.journal.active = some a → s.tables.usable a = true →
    s.journal.appendPos = some 256 → s.ctl.degraded = false → s.OpeningBegun t .entry who
  records : ∀ j rest, s.journal.requests = .record j :: rest → s.ctl.degraded = false → s.OpeningBegun t .recording .eraseEngine
  full : ∀ who e rest a, s.journal.requests = .append who e :: rest → s.journal.active = some a → s.tables.usable a = true →
    s.journal.appendPos = some 256 → s.ctl.degraded = true → s.RequestFailed t
  unusable : ∀ who e rest a, s.journal.requests = .append who e :: rest → s.journal.active = some a → s.tables.usable a = false →
    s.RequestFailed t
  dropped : ∀ j rest, s.journal.requests = .record j :: rest → s.ctl.degraded = true → s.RequestFailed t

/-- t is s after request q joins the journal's list (R75): behind another it waits; on an empty list it is begun at once. -/
structure State.RequestTaken (s t : State) (q : JournalRequest) : Prop where
  waits : s.journal.requests ≠ [] → t = { s with journal := { s.journal with requests := s.journal.requests ++ [q] } }
  begun : s.journal.requests = [] → ({ s with journal := { s.journal with requests := [q] } } : State).RequestBegun t

/-- Command c ends well the journal's append of entry e, the first request of its list (R76): a PROGRAM_END without FAIL with verify
off, or a READ_BACK_END that matches. -/
def State.appendGood (s : State) (c : Instr) (who : Requester) (e : Payload) (rest : List JournalRequest) : Prop :=
  s.journal.activity = .appending ∧ s.journal.requests = .append who e :: rest ∧
    ((∃ st a data since, c = .programEnd st ∧ s.link.op = some { user := .journal, op := .program a data, stage := .polling since } ∧
        st.getLsbD 0 = false ∧ st.getLsbD 3 = false ∧ s.values.verify = false) ∨
      ∃ a, c = .readBackEnd (payloadImage e) ∧
        s.link.op = some { user := .journal, op := .readBack a (payloadImage e).length, stage := .reading })

/-- Command c ends in failure the journal's append of entry e (R76): a PROGRAM_END with FAIL, or a READ_BACK_END that differs. -/
def State.appendBad (s : State) (c : Instr) (who : Requester) (e : Payload) (rest : List JournalRequest) : Prop :=
  s.journal.activity = .appending ∧ s.journal.requests = .append who e :: rest ∧
    ((∃ st a data since, c = .programEnd st ∧ s.link.op = some { user := .journal, op := .program a data, stage := .polling since } ∧
        st.getLsbD 0 = false ∧ st.getLsbD 3 = true) ∨
      ∃ bytes a, c = .readBackEnd bytes ∧ bytes ≠ payloadImage e ∧
        s.link.op = some { user := .journal, op := .readBack a bytes.length, stage := .reading })

/-- s once its append is complete (R76): no operation on the link, the append position one higher, the request off the list. -/
def State.appended (s : State) (rest : List JournalRequest) : State :=
  { s with
    journal :=
      { s.journal with
        requests := rest, activity := .idle, opening := none, appendPos := s.journal.appendPos.map (· + 1) }
    link := { s.link with op := none } }

/-- Command c ends well the journal's write of position q of the candidate of opening o (R81): a PROGRAM_END without FAIL with verify
off, or a READ_BACK_END that matches. -/
def State.positionGood (s : State) (c : Instr) (o : Opening) (q : Nat) : Prop :=
  (∃ st a data since, c = .programEnd st ∧ o.stage = .program q ∧
      s.link.op = some { user := .journal, op := .program a data, stage := .polling since } ∧ st.getLsbD 0 = false ∧
      st.getLsbD 3 = false ∧ s.values.verify = false) ∨
    ∃ bytes a, c = .readBackEnd bytes ∧ o.stage = .check q ∧ bytes = o.imageAt q ∧
      s.link.op = some { user := .journal, op := .readBack a bytes.length, stage := .reading }

/-- Command c ends in failure the journal's write of a position of the candidate of opening o (R82): a PROGRAM_END with FAIL, or a
READ_BACK_END that differs. -/
def State.positionBad (s : State) (c : Instr) (o : Opening) : Prop :=
  (∃ st a data since q, c = .programEnd st ∧ o.stage = .program q ∧
      s.link.op = some { user := .journal, op := .program a data, stage := .polling since } ∧ st.getLsbD 0 = false ∧
      st.getLsbD 3 = true) ∨
    ∃ bytes a q, c = .readBackEnd bytes ∧ o.stage = .check q ∧ bytes ≠ o.imageAt q ∧
      s.link.op = some { user := .journal, op := .readBack a bytes.length, stage := .reading }

/-- The journal's roles once opening o is complete (R81): the candidate active, the active sector previous, the former previous one,
if usable and not the candidate, pending erase, and the append position one past the checkpoint. -/
def State.rolesMoved (s : State) (o : Opening) : Journal :=
  { s.journal with
    active := some o.candidate
    previous := s.journal.active
    sequence := some o.number
    appendPos := some (o.images.length + 1)
    pendingErase :=
      match s.journal.previous with
      | some p =>
        if s.tables.usable p = true ∧ p ≠ o.candidate then s.journal.pendingErase.setIfInBounds p true else s.journal.pendingErase
      | none => s.journal.pendingErase
    opening := none }

/-- t is s after a candidate of opening o is withdrawn and leaves no valid head (R82): with the latch clear and three or more usable
the next usable sector after the active one is taken, with the same number; else the opening is abandoned. -/
structure State.CandidatePassed (s t : State) (o : Opening) (who : Requester) : Prop where
  next : ∀ a c, s.ctl.degraded = false → 3 ≤ (List.range 8).countP (fun k => s.tables.usable k) → s.journal.active = some a →
    s.nextSector a c → s.CandidateTaken t o.purpose o.number c who
  abandoned : s.ctl.degraded = true ∨ (List.range 8).countP (fun k => s.tables.usable k) < 3 → s.RequestFailed t

/-! ### The pages of a job -/

/-- Command c ends well the write of the job's page (R50, R51, R56): a PROGRAM_END without FAIL with verify off, or a READ_BACK_END
that matches the work page. -/
def State.pageGood (s : State) (c : Instr) : Prop :=
  (∃ st a data since, c = .programEnd st ∧
      s.link.op = some { user := .commitEngine, op := .program a data, stage := .polling since } ∧ st.getLsbD 0 = false ∧
      st.getLsbD 3 = false ∧ s.values.verify = false) ∨
    ∃ a, c = .readBackEnd s.engine.workPage ∧
      s.link.op = some { user := .commitEngine, op := .readBack a s.engine.workPage.length, stage := .reading }

/-- Command c ends in failure the write of the job's page, with its cause (R53, R57): a PROGRAM_END with FAIL, or a READ_BACK_END
that differs from the work page. -/
def State.pageBad (s : State) (c : Instr) (cause : RetireCause) : Prop :=
  (cause = .programFail ∧ ∃ st a data since, c = .programEnd st ∧
      s.link.op = some { user := .commitEngine, op := .program a data, stage := .polling since } ∧ st.getLsbD 0 = false ∧
      st.getLsbD 3 = true) ∨
    (cause = .verifyFail ∧ ∃ bytes a, c = .readBackEnd bytes ∧ bytes ≠ s.engine.workPage ∧
      s.link.op = some { user := .commitEngine, op := .readBack a bytes.length, stage := .reading })

/-- g is the slots of s with those of job j FREE and nothing written in them, their data bytes left (R33). -/
def State.SlotsFreed (s : State) (j : Job) (g : Staging) : Prop :=
  g = { s.staging with slots := g.slots } ∧ (∀ i < 16, i ∉ j.slots → g.slot i = s.staging.slot i) ∧
    ∀ i ∈ j.slots, (g.slot i).state = .free ∧ (g.slot i).page = none ∧ (g.slot i).rank = none ∧
      (g.slot i).data = (s.staging.slot i).data ∧ ∀ o < 256, (g.slot i).byte o = none

/-- t is s after the page at the cursor of its job j is done (R50, R56): in place the next job page is read, or after the last one the
slots are freed and the job ends (R52, R33, R60); in a relocation the next page is read, or after page 15 the append of REMAP
requested (R59). -/
structure State.PageDone (s t : State) (j : Job) : Prop where
  nextJobPage : ∀ q, j.kind = .inPlace → s.firstPage j (j.cursor + 1) q →
    t = s.engineAsks { j with cursor := q, phase := .programInPlace } s.engine.workPage (.pageRead (j.source * 4096 + q * 256))
  lastJobPage : j.kind = .inPlace → s.noPage j (j.cursor + 1) →
    ∃ g, s.SlotsFreed j g ∧ ({ s with staging := g } : State).JobEnded t
  nextPage : j.kind = .relocate → j.cursor < 15 →
    t = s.engineAsks { j with cursor := j.cursor + 1, phase := .copy } s.engine.workPage
      (.pageRead (j.source * 4096 + (j.cursor + 1) * 256))
  remap : ∀ p, j.kind = .relocate → j.cursor = 15 → j.target = some p →
    ({ s with
      engine := { s.engine with job := some { j with cursor := 16, phase := .journal, awaited := some .remap } } } :
        State).RequestTaken t
      (.append .commitEngine (.remap j.logical p j.source (if j.fallback = none then .ordinary else .inPlaceFailed)))

/-- t is s after the entry to FAULT (R166): what each block keeps and what it discards, the doze count stopped. The link
events that end an open read stream aside, nothing is driven. -/
structure State.Faulted (s t : State) : Prop where
  ctl : t.ctl = { s.ctl with mode := .fault, mount := none }
  portHeld : ∀ c, s.port.cycle = some c → c.cond.held = true → t.port = s.port.refused c s.ctl.wide
  portAnswered : (∀ c, s.port.cycle = some c → c.cond.held = false) → t.port = s.port
  slots : ∀ i < 16, (t.staging.slot i).state = .free ∧ (t.staging.slot i).page = none ∧ (t.staging.slot i).rank = none ∧
    (t.staging.slot i).written = Vector.replicate _ false ∧ (t.staging.slot i).data = (s.staging.slot i).data
  queue : t.staging.queue = [] ∧ t.staging.waiting = none
  heldRun : t.heldRun = none
  timer : t.timer = .stopped
  engine : t.engine = { s.engine with job := none }
  tables : t.tables = .reset
  journal : t.journal = .reset
  pool : t.pool = .reset
  link : t.link = { Link.reset with power := s.link.power }
  values : t.values = s.values
  wire : t.wire = if s.link.stream.isSome then s.wire ++ [.closeStream] else s.wire
  now : t.now = s.now ∧ t.pending = s.pending

end Sys2Proof.Machine
end

