-- ==== Sys2Proof/Certificates/Slice0/Obligations.lean ====
section
/-! DEFINITION. Obligations.lean: the statements for the provers. A next state is written as the state before with the fields
the command changes; `closeStep` around it lets the arbiter grant a free link (GrantFollowsPriority says all that this does) and
brings the doze count into line with its conditions (DozeCountFollowsConditions). -/

open Sys2Proof Sys2Proof.Machine

/-! ## The step, reset, and the laws every step keeps -/

/-- A step runs the command at the front of the queue on the state with the queue's rest. The queue is the model's form (log
entry 2). -/
def Obligations.StepRunsFrontCommand : Prop :=
  ∀ (c : Instr) (rest : List Instr) (s : State), s.pending = c :: rest → step s = exec c { s with pending := rest }

/-- What the spec says of the bridge in reset: every block's state after reset (R5, R9, R40, R69, R89, R94, R105, R108, R148, R149,
R164, R165). -/
def Obligations.ResetHoldsSpecValues : Prop :=
  let s := State.reset
  s.port = { latched := 0, cycle := none, hwaitn := true, hfailn := true, hadLow := none, hadHigh := none } ∧
    (∀ i < 16, (s.staging.slot i).state = .free ∧ (s.staging.slot i).page = none ∧ (s.staging.slot i).rank = none ∧
      ∀ o < 256, (s.staging.slot i).byte o = none) ∧
    s.staging.queue = [] ∧ s.staging.waiting = none ∧ s.heldRun = none ∧ s.timer.quiet = none ∧ s.timer.hold = none ∧
    s.engine.job = none ∧
    (∀ l < 256, s.tables.entry l = none) ∧
    (∀ p < 512, (s.tables.record p).state = (if p < 8 then some .journal else none) ∧ (s.tables.record p).owner = none ∧
      (s.tables.record p).retirePending = false) ∧
    s.journal.active = none ∧ s.journal.previous = none ∧ s.journal.sequence = none ∧ s.journal.appendPos = none ∧
    (∀ j < 8, flagAt s.journal.pendingErase j = false) ∧ s.journal.requests = [] ∧ s.journal.activity = .idle ∧
    s.journal.opening = none ∧ s.pool.spares = [] ∧ s.pool.eraser = .idle ∧
    s.link.power = .unknown ∧ s.link.op = none ∧ s.link.erasing = none ∧ s.link.requests = .empty ∧ s.link.granted = none ∧
    s.link.stream = none ∧ s.link.doze = none ∧ s.lseln = true ∧ s.lsck = some false ∧ s.ctl.mode = .mounting ∧
    s.ctl.degraded = false ∧ s.clean = false ∧ s.modePins = 0b000

/-- The machine after reset meets the laws that steps keep. -/
def Obligations.LawsHoldAtReset : Prop :=
  State.reset.Sound ∧ State.reset.StagingLaw ∧ State.reset.TableLaw ∧ State.reset.WorkLaw

/-- Every step keeps the laws of reset, mode, port, link and doze count. -/
def Obligations.StepKeepsSoundness : Prop :=
  ∀ s t : State, s.Sound → step s = .next t → t.Sound

/-- Every step keeps the laws of the slots, the commit queue and the job's slot list. -/
def Obligations.StepKeepsStagingLaw : Prop :=
  ∀ s t : State, s.StagingLaw → step s = .next t → t.StagingLaw

/-- Every step keeps the laws of the map, the physical sector table and the spare list while the tables are held (R3, R4, R6, R7,
R8, R14, R87), with what the blocks have under way agreeing with the tables: the map one sector for each logical sector, all
MAPPED with it as owner; at most one TARGET; the spare list exactly the clean and dirty spares, each once; the retired and the
pending sectors at most 64. -/
def Obligations.StepKeepsTableLaw : Prop :=
  ∀ s t : State, s.Sound → s.TableLaw → s.WorkLaw → step s = .next t → t.TableLaw ∧ t.WorkLaw

/-- Every command, in every state, answers a next state that keeps the waiting commands, the timebase, and all that has been
driven on the link before. That a command whose condition does not hold changes nothing is the model's choice (log entry 2). -/
def Obligations.EveryCommandCompletes : Prop :=
  ∀ (c : Instr) (s : State), ∃ t driven, exec c s = .next t ∧ t.pending = s.pending ∧ t.now = s.now ∧ t.wire = s.wire ++ driven

/-- FAULT is left by reset alone, and the degraded latch, once set with the map in force, is cleared by reset alone (R165,
R166). -/
def Obligations.FaultAndLatchLeftByResetAlone : Prop :=
  ∀ (c : Instr) (s t : State), s.ModeLaw → c ≠ .rstnAssert → c ≠ .powerOn → exec c s = .next t →
    (s.ctl.mode = .fault → t.ctl.mode = .fault) ∧
      (s.ctl.mode.inForce = true → s.ctl.degraded = true → t.ctl.degraded = true)

/-- While the map is in force it changes only when the append of a REMAP completes, in that entry alone (R13, R76): at the good end
of the journal's program of the entry, or, with verify on, at a read-back that matches. -/
def Obligations.MapChangesAtAppendCompletionOnly : Prop :=
  ∀ (c : Instr) (s t : State), s.ModeLaw → s.ctl.mode.inForce = true → exec c s = .next t → t.ctl.mode.inForce = true →
    t.tables.map ≠ s.tables.map →
    ∃ x who l new old cause rest, s.link.op = some x ∧ x.user = .journal ∧ s.journal.activity = .appending ∧
      s.journal.requests = .append who (.remap l new old cause) :: rest ∧
      ((∃ st addr data since, c = .programEnd st ∧ x.op = .program addr data ∧ x.stage = .polling since ∧
          st.getLsbD 0 = false ∧ st.getLsbD 3 = false ∧ s.values.verify = false) ∨
        ∃ bytes addr len, c = .readBackEnd bytes ∧ x.op = .readBack addr len ∧ x.stage = .reading ∧
          bytes = payloadImage (.remap l new old cause)) ∧
      ∀ k < 256, t.tables.entry k = if k = l then some new else s.tables.entry k

/-- What the link protocol forbids: a PROGRAM or an ERASE goes out only at a write-enable status with WEL set (R110), and a flash
whose power state is UNKNOWN or DOWN is given no command but POWER_UP (R125, R128). -/
def Obligations.LinkProtocolKept : Prop :=
  ∀ (c : Instr) (s t : State) (driven : List LinkEvent), exec c s = .next t → t.wire = s.wire ++ driven →
    ((∃ addr data, LinkEvent.program addr data ∈ driven) ∨ (∃ addr, LinkEvent.erase addr ∈ driven) →
      ∃ st, c = .writeEnableStatus st ∧ st.getLsbD 1 = true) ∧
    (s.Sound → s.link.power = .unknown ∨ s.link.power = .down → ∀ e ∈ driven, e = .closeStream ∨ e = .powerUp)

/-- The outputs CLEAN and MODE[2:0] (R162, R164): CLEAN is high exactly in READY, READ_ONLY, DRAIN and HALTED with all sixteen slots
FREE; each mode shows its code. -/
def Obligations.CleanAndModePinsShowState : Prop :=
  ∀ s : State,
    (s.clean = true ↔ (s.ctl.mode = .ready ∨ s.ctl.mode = .readOnly ∨ s.ctl.mode = .drain ∨ s.ctl.mode = .halted) ∧
      ∀ i < 16, (s.staging.slot i).state = .free) ∧
    (s.ctl.mode = .mounting → s.modePins = 0b000) ∧ (s.ctl.mode = .ready → s.modePins = 0b001) ∧
    (s.ctl.mode = .readOnly → s.modePins = 0b010) ∧ (s.ctl.mode = .drain → s.modePins = 0b011) ∧
    (s.ctl.mode = .halted → s.modePins = 0b100) ∧ (s.ctl.mode = .formatting → s.modePins = 0b101) ∧
    (s.ctl.mode = .fault → s.modePins = 0b111)

/-- The doze count (R126): nothing else of the state is touched; with every condition holding the count runs on, or starts
now; with one not holding it is stopped. -/
def Obligations.DozeCountFollowsConditions : Prop :=
  ∀ s : State, ∃ d, s.refreshDoze = { s with link := { s.link with doze := d } } ∧
    ((s.ctl.mode = .ready ∨ s.ctl.mode = .readOnly) ∧ s.values.dozeMs ≠ 0 ∧ s.port.cycle = none ∧
        (∀ i < 16, (s.staging.slot i).state = .free) ∧ s.engine.job = none ∧ s.eraseOutstanding = false ∧
        s.journal.activity = .idle ∧ s.journal.requests = [] ∧ s.link.op = none ∧ s.link.suspended = false ∧
        s.link.requests = .empty ∧ s.link.power = .awake →
      d = some (s.link.doze.getD s.now)) ∧
    (s.ctl.mode ≠ .ready ∧ s.ctl.mode ≠ .readOnly ∨ s.values.dozeMs = 0 ∨ s.port.cycle ≠ none ∨
        (∃ i < 16, (s.staging.slot i).state ≠ .free) ∨ s.engine.job ≠ none ∨ s.eraseOutstanding = true ∨
        s.journal.activity ≠ .idle ∨ s.journal.requests ≠ [] ∨ s.link.op ≠ none ∨ s.link.suspended = true ∨
        s.link.requests ≠ .empty ∨ s.link.power ≠ .awake →
      d = none)

/-! ## Addresses and formats -/

/-- The parts of a logical address, their ranges, and how the page number is made of them (R1); the bytes of an even address
and of the next odd one lie in one page and one sector. -/
def Obligations.AddressSplitsIntoParts : Prop :=
  ∀ a : LogAddr,
    logicalSectorOf a = (a.extractLsb' 12 8).toNat ∧ pageInSector (pageOf a) = (a.extractLsb' 8 4).toNat ∧
      offsetOf a = (a.extractLsb' 0 8).toNat ∧ pageOf a = (a.extractLsb' 8 12).toNat ∧
      logicalSectorOf a ≤ 255 ∧ pageInSector (pageOf a) ≤ 15 ∧ offsetOf a ≤ 255 ∧ pageOf a ≤ 4095 ∧
      pageOf a = logicalSectorOf a * 16 + pageInSector (pageOf a) ∧ sectorOfPage (pageOf a) = logicalSectorOf a ∧
      (a.getLsbD 0 = false → pageOf (a + 1) = pageOf a ∧ logicalSectorOf (a + 1) = logicalSectorOf a)

/-- The bytes driven for each command are its code, then the address, then the data (R105, R198), every byte of them most
significant bit first, and read so too (R105); the three bytes of a physical address, most significant first, spell the 21-bit address, the top
three bits zero (R199). LSCK runs while a read clocks its bytes in, and rests low; LSELn is low then and while a stream is open
(R105, R122). That LSCK is shown at rest or running, and no more, is the model's form (log entry 12). -/
def Obligations.LinkBytesSpellCommands : Prop :=
  (∀ (addr len : Nat) (data : List Byte),
    linkBytes .identify = [0xA1] ∧ linkBytes .status = [0x51] ∧ linkBytes .enableWrite = [0x5A] ∧
      linkBytes (.read addr len) = 0x0D :: addressBytes addr ∧
      linkBytes (.program addr data) = 0x2C :: (addressBytes addr ++ data) ∧
      linkBytes (.erase addr) = 0xE4 :: addressBytes addr ∧ linkBytes .suspend = [0x7B] ∧ linkBytes .resume = [0x7D] ∧
      linkBytes .powerDown = [0xD0] ∧ linkBytes .powerUp = [0xD1]) ∧
  (∀ addr < 2 ^ 21, ∃ b0 b1 b2 : Byte, addressBytes addr = [b0, b1, b2] ∧
    b0.toNat * 65536 + b1.toNat * 256 + b2.toNat = addr ∧ b0.toNat < 32) ∧
  (∀ b : Byte, byteBits b = [b.getLsbD 7, b.getLsbD 6, b.getLsbD 5, b.getLsbD 4, b.getLsbD 3, b.getLsbD 2, b.getLsbD 1, b.getLsbD 0] ∧
    byteOfBits (byteBits b) = b) ∧
  (∀ e, linkBits e = (linkBytes e).flatMap byteBits ∧
    ∀ i k, k < 8 → (linkBits e)[i * 8 + k]? = (linkBytes e)[i]?.map fun b => b.getLsbD (7 - k)) ∧
  ∀ s : State, (s.lsck = none ↔ ∃ o, s.link.op = some o ∧ o.stage = .reading) ∧ (s.lsck ≠ none → s.lsck = some false) ∧
    (s.lseln = false ↔ s.link.stream ≠ none ∨ ∃ o, s.link.op = some o ∧ o.stage = .reading)

/-- A new byte is compatible with an old one when new AND old is new; then and only then every bit that is zero in the old
value is zero in the new one (R49). -/
def Obligations.CompatibleClearsBitsOnly : Prop :=
  ∀ new old : Byte, (compatible new old = true ↔ new &&& old = new) ∧
    (compatible new old = true ↔ ∀ i < 8, old.getLsbD i = false → new.getLsbD i = false)

/-- An entry as it is programmed is sixteen bytes and reads back as what was written: a REMAP, a RETIRE, and a HEAD as its
sector's valid head (R71, R72, R194, R195). -/
def Obligations.EntriesReadBackAsWritten : Prop :=
  (∀ (l new old : Nat) (cause : RemapCause), l < 256 → new < 512 → old < 512 →
    (payloadImage (.remap l new old cause)).length = 16 ∧
      classOf (payloadImage (.remap l new old cause)) = .valid (.remap l new old)) ∧
  (∀ (p : Nat) (cause : RetireCause), p < 512 →
    (payloadImage (.retire p cause)).length = 16 ∧ classOf (payloadImage (.retire p cause)) = .valid (.retire p)) ∧
  (∀ sequence j : Nat, 0 < sequence → sequence < 0xFFFFFFFF → j < 8 →
    (headImage sequence j).length = 16 ∧ validHead j (headImage sequence j) = some sequence ∧
      ∀ k, k ≠ j → validHead k (headImage sequence j) = none)

/-- A checkpoint as an opening writes it is the checkpoint that a mount reads: the map, the retired set in its order and the
usable flags, whatever stands after CKPT_END (R73, R81, R171, R194, R195). -/
def Obligations.CheckpointReadsBackAsWritten : Prop :=
  ∀ (sequence j : Nat) (retired map : List Nat) (usable : Vector Bool 8) (rest : List Byte),
    sequence < 2 ^ 32 → j < 8 → map.length = 256 → (∀ p ∈ map, p < 512) → retired.length ≤ 64 → (∀ p ∈ retired, p < 512) →
      ∃ k, checkpointOf ((headImage sequence j :: checkpointImages sequence retired map usable).flatten ++ rest) sequence = some k ∧
        k.count = retired.length ∧ k.map = map ∧ k.retired = retired ∧ usableOfByte k.usable = usable

/-- The append position a mount installs: the position after the last one that is not blank (R74). -/
def Obligations.AppendPositionAfterLastWritten : Prop :=
  ∀ image : List Byte, appendPositionOf image ≤ 256 ∧
    (∀ q < 256, appendPositionOf image ≤ q → classOf (positionBytes image q) = .blank) ∧
    (0 < appendPositionOf image → classOf (positionBytes image (appendPositionOf image - 1)) ≠ .blank)

/-- One position of the incremental region replayed keeps the map a set of distinct data sectors apart from the retired ones,
and the retired set within the cap (R173, R174, R172). -/
def Obligations.ReplayKeepsConsistency : Prop :=
  ∀ (w v : WorkTables) (c : PositionClass),
    (∀ p ∈ w.map, isDataSector p = true) → w.map.Nodup → (∀ p ∈ w.retired, isDataSector p = true ∧ p ∉ w.map) →
      w.retired.Nodup → w.retired.length ≤ 64 → replayEntry w c = some v →
      (∀ p ∈ v.map, isDataSector p = true) ∧ v.map.Nodup ∧ v.map.length = w.map.length ∧
        (∀ p ∈ v.retired, isDataSector p = true ∧ p ∉ v.map) ∧ v.retired.Nodup ∧ v.retired.length ≤ 64 ∧
        (∀ l new old, c = .valid (.remap l new old) → v.map[l]? = some new ∧ ∀ k, k ≠ l → v.map[k]? = w.map[k]?)

/-- The tables a mount installs (R17, R7): each logical sector's entry is the working map's, its data sector is MAPPED with it
as owner; the retired set is RETIRED; every other data sector is SPARE_DIRTY and on the spare list; the journal sectors keep
JOURNAL with the working usable flags. -/
def Obligations.InstalledTablesFollowWorkingMap : Prop :=
  ∀ m : MountRecord, m.workMap.length = 256 → m.workMap.Nodup → (∀ p ∈ m.workMap, isDataSector p = true) →
    (∀ p ∈ m.workRetired, isDataSector p = true ∧ p ∉ m.workMap) →
    (∀ l < 256, ∀ p, m.workMap[l]? = some p → (installedTables m).entry l = some p ∧
      (installedTables m).record p = { state := some .mapped, owner := some l, retirePending := false, usable := false }) ∧
    (∀ p ∈ m.workRetired,
      (installedTables m).record p = { state := some .retired, owner := none, retirePending := false, usable := false }) ∧
    (∀ p, 8 ≤ p → p < 512 → p ∉ m.workMap → p ∉ m.workRetired →
      (installedTables m).record p = { state := some .spareDirty, owner := none, retirePending := false, usable := false }) ∧
    (∀ p, p ∈ installedSpares m ↔ 8 ≤ p ∧ p < 512 ∧ p ∉ m.workMap ∧ p ∉ m.workRetired) ∧
    (installedSpares m).Pairwise (· < ·) ∧
    (∀ j < 8, (installedTables m).record j =
      { state := some .journal, owner := none, retirePending := false, usable := flagAt m.workUsable j })

/-- The configuration record read at mount (R184, R186, R187, R188): it is valid when its signature, its version and its check
value over the 62 bytes before it are right; an invalid one gives the defaults; a valid one gives each field when it lies in its
range and its default otherwise, and a range when its flag is 1 and its last sector is not less than its first. -/
def Obligations.RecordGivesValuesInForce : Prop :=
  ∀ b : List Byte,
    (b.length = 64 → (recordValid b = true ↔
      byteAt b 0 = 0x44 ∧ byteAt b 1 = 0x4E ∧ byteAt b 2 = 0x43 ∧ byteAt b 3 = 0x31 ∧ byteAt b 4 = 1 ∧
        byteAt b 62 + 256 * byteAt b 63 = (crc16 (b.take 62)).toNat)) ∧
    (recordValid b = false → decodeRecord b =
      { inPlaceAllowed := true, verify := true, quietMs := 50, holdMs := 1000, readyHold := 500, dozeMs := 0, lowWater := 2,
        guard := 1000, ranges := [], lock := false }) ∧
    (recordValid b = true →
      ((decodeRecord b).inPlaceAllowed = false ↔ byteAt b 5 = 0) ∧ ((decodeRecord b).verify = false ↔ byteAt b 6 = 0) ∧
        (decodeRecord b).quietMs = wordAt b 7 ∧ (decodeRecord b).holdMs = wordAt b 9 ∧
        (decodeRecord b).readyHold = (if 10 ≤ wordAt b 11 ∧ wordAt b 11 ≤ 2000 then wordAt b 11 else 500) ∧
        (decodeRecord b).dozeMs = wordAt b 13 ∧
        (decodeRecord b).lowWater = (if 1 ≤ byteAt b 15 ∧ byteAt b 15 ≤ 8 then byteAt b 15 else 2) ∧
        (decodeRecord b).guard = (if 100 ≤ wordAt b 16 ∧ wordAt b 16 ≤ 10000 then wordAt b 16 else 1000) ∧
        ((decodeRecord b).lock = true ↔ byteAt b 30 = 1) ∧
        ∀ first last, (first, last) ∈ (decodeRecord b).ranges ↔
          ∃ i < 4, byteAt b (18 + 3 * i) = 1 ∧ byteAt b (19 + 3 * i) = first ∧ byteAt b (20 + 3 * i) = last ∧ first ≤ last)

/-! ## The host port -/

/-- HLAT_FALL (R132): with no cycle in progress the address is latched; during a cycle the edge is ignored, and in reset neither an
edge of HLAT nor one of HSTBn is taken (R148). That the first clause also takes an edge while HSTBn has been low since before the
release of reset, a time that R148 calls a data phase, is the model's choice (log entry 30). -/
def Obligations.AddressLatchedOutsideDataPhase : Prop :=
  ∀ (hdir hlanen : Bool) (had : BitVec 16) (hau : BitVec 4) (s : State),
    (s.inReset = false → s.port.cycle = none →
      exec (.hlatFall had hau) s = .next { s with port := { s.port with latched := hau ++ had } }) ∧
    (s.port.cycle ≠ none → exec (.hlatFall had hau) s = .next s) ∧
    (s.inReset = true →
      exec (.hlatFall had hau) s = .next s ∧ exec (.dataPhaseStart hdir hlanen had) s = .next s ∧
        exec .dataPhaseEnd { s with port := { s.port with cycle := none } } =
          .next { s with port := { s.port with cycle := none } })

/-- DATA_PHASE_START in MOUNTING or FORMATTING (R133, R138, R141): the cycle is held for the mount with a limit of 500 µs. -/
def Obligations.CycleHeldForMount : Prop :=
  ∀ (hdir hlanen : Bool) (had : BitVec 16) (s : State), s.inReset = false → s.port.cycle = none →
    s.ctl.mode = .mounting ∨ s.ctl.mode = .formatting →
    exec (.dataPhaseStart hdir hlanen had) s = .next
      ({ s with
          port :=
            { s.port with
              hwaitn := false
              cycle := some
                { addr := s.port.latched, isRead := hdir, bytes := cycleBytes s.ctl.wide hlanen s.port.latched had
                  waitStart := s.now, limit := 500, cond := .heldForMount, taken := [] } } } : State).closeStep

/-- DATA_PHASE_START refused by the checks (R137, R139, R140, R145): any cycle in HALTED and FAULT, a write in READ_ONLY and DRAIN,
and in READY, with SVC sampled at 0, a write to the locked record or to a protected range. -/
def Obligations.ChecksRefuseCycle : Prop :=
  ∀ (hdir hlanen : Bool) (had : BitVec 16) (s : State), s.inReset = false → s.port.cycle = none →
    (s.ctl.mode = .halted ∨ s.ctl.mode = .fault ∨ hdir = false ∧ (s.ctl.mode = .readOnly ∨ s.ctl.mode = .drain)) ∨
      (s.ctl.mode = .ready ∧ hdir = false ∧ (s.openCycle hdir hlanen had).bytes ≠ [] ∧ s.ctl.svc = false ∧
        ((s.values.lock = true ∧ ∃ b ∈ (s.openCycle hdir hlanen had).bytes, b.addr.toNat ≤ 0x3F) ∨
          ∃ r ∈ s.values.ranges, r.1 ≤ s.port.latched.toNat / 4096 ∧ s.port.latched.toNat / 4096 ≤ r.2)) →
    exec (.dataPhaseStart hdir hlanen had) s =
      .next ({ s with port := s.port.refused (s.openCycle hdir hlanen had) s.ctl.wide } : State).closeStep

/-- The bytes a cycle names (R134, R135), all in the page of the latched address: in an 8-bit port the byte at the address, on the
low lane; in a 16-bit port, by A0 and HLANEn, the bytes at an even address and the next one on the low and high lanes, one of the
two, or none. DATA_PHASE_START of a cycle that names none, where the mode lets it pass, is answered at once, a read as 0xFFFF
(R135). -/
def Obligations.CycleNamingNoByteAnswered : Prop :=
  (∀ (hlanen : Bool) (a : LogAddr) (had : BitVec 16),
    let low : CycleByte := { lane := .low, addr := a, data := had.extractLsb' 0 8 }
    let high (at_ : LogAddr) : CycleByte := { lane := .high, addr := at_, data := had.extractLsb' 8 8 }
    cycleBytes false hlanen a had = [low] ∧
      cycleBytes true hlanen a had =
        (if a.getLsbD 0 then (if hlanen then [] else [high a]) else if hlanen then [low] else [low, high (a + 1)]) ∧
      ∀ wide, ∀ b ∈ cycleBytes wide hlanen a had, pageOf b.addr = pageOf a) ∧
  ∀ (hdir : Bool) (had : BitVec 16) (s : State), s.inReset = false → s.port.cycle = none → s.ctl.wide = true →
    s.port.latched.getLsbD 0 = true →
    s.ctl.mode = .ready ∨ hdir = true ∧ (s.ctl.mode = .readOnly ∨ s.ctl.mode = .drain) →
    exec (.dataPhaseStart hdir true had) s = .next
      ({ s with
          port :=
            { s.port with
              hwaitn := true
              cycle := some { s.openCycle hdir true had with cond := .answered }
              hadLow := if hdir then some 0xFF else s.port.hadLow
              hadHigh := if hdir then some 0xFF else s.port.hadHigh } } : State).closeStep

/-- DATA_PHASE_START of a write to a page with a FILLING or SEALED slot (R22, R143, R151): the bytes go into that slot, which
keeps its state, page, rank and queue place; every other slot is untouched, and the quiet count restarts if it runs. -/
def Obligations.WriteGoesIntoOpenSlot : Prop :=
  ∀ (hlanen : Bool) (had : BitVec 16) (s : State) (i : Nat), s.inReset = false → s.port.cycle = none → s.ctl.mode = .ready →
    (s.openCycle false hlanen had).bytes ≠ [] → s.writeAllowed (s.openCycle false hlanen had) →
    s.staging.openSlot (pageOf s.port.latched) = some i →
    ∃ t, exec (.dataPhaseStart false hlanen had) s = .next t ∧
      t = ({ s with port := t.port, staging := { s.staging with slots := t.staging.slots }, timer := t.timer } : State).closeStep ∧
      t.port = s.port.accepted (s.openCycle false hlanen had) ∧
      t.timer = { s.timer with quiet := s.timer.quiet.map fun _ => s.now } ∧
      (∀ k < 16, k ≠ i → t.staging.slot k = s.staging.slot k) ∧
      (t.staging.slot i).state = (s.staging.slot i).state ∧ (t.staging.slot i).page = (s.staging.slot i).page ∧
      (t.staging.slot i).rank = (s.staging.slot i).rank ∧
      ∀ o < 256, ((t.staging.slot i).data[o]?, (t.staging.slot i).written[o]?) =
        putAt (s.openCycle false hlanen had).bytes o ((s.staging.slot i).data[o]?, (s.staging.slot i).written[o]?)

/-- DATA_PHASE_START of a write to a page with no open slot while the FREE slots stay at or above the low-water mark (R23,
R150): the lowest FREE slot becomes FILLING with the next rank and the write's bytes alone; the first one starts both counts. -/
def Obligations.WriteAllocatesLowestFreeSlot : Prop :=
  ∀ (hlanen : Bool) (had : BitVec 16) (s : State) (i : Nat), s.inReset = false → s.port.cycle = none → s.ctl.mode = .ready →
    (s.openCycle false hlanen had).bytes ≠ [] → s.writeAllowed (s.openCycle false hlanen had) →
    s.staging.openSlot (pageOf s.port.latched) = none →
    i < 16 → (s.staging.slot i).state = .free → (∀ k < i, (s.staging.slot k).state ≠ .free) →
    s.values.lowWater < s.staging.count .free →
    ∃ t, exec (.dataPhaseStart false hlanen had) s = .next t ∧
      t = ({ s with port := t.port, staging := { s.staging with slots := t.staging.slots }, timer := t.timer } : State).closeStep ∧
      t.port = s.port.accepted (s.openCycle false hlanen had) ∧
      (s.staging.count .filling = 0 →
        t.timer.quiet = (if s.values.quietMs = 0 then none else some s.now) ∧
          t.timer.hold = if s.values.holdMs = 0 then none else some s.now) ∧
      (s.staging.count .filling ≠ 0 → t.timer = { s.timer with quiet := s.timer.quiet.map fun _ => s.now }) ∧
      (∀ k < 16, k ≠ i → t.staging.slot k = s.staging.slot k) ∧
      (t.staging.slot i).state = .filling ∧ (t.staging.slot i).page = some (pageOf s.port.latched) ∧
      (t.staging.slot i).rank = some (s.staging.count .filling + 1) ∧
      ∀ o < 256, ((t.staging.slot i).data[o]?, (t.staging.slot i).written[o]?) =
        putAt (s.openCycle false hlanen had).bytes o ((s.staging.slot i).data[o]?, some false)

/-- DATA_PHASE_START of a write whose allocation leaves fewer FREE slots than the low-water mark (R24, R28, R152): the oldest
FILLING slot k, the new slot i itself when there was none, is sealed at the queue's tail, and the ranks above it drop by one. -/
def Obligations.PressureSealsOldestSlot : Prop :=
  ∀ (hlanen : Bool) (had : BitVec 16) (s : State) (i k : Nat), s.StagingLaw → s.inReset = false → s.port.cycle = none →
    s.ctl.mode = .ready → (s.openCycle false hlanen had).bytes ≠ [] → s.writeAllowed (s.openCycle false hlanen had) →
    s.staging.openSlot (pageOf s.port.latched) = none →
    i < 16 → (s.staging.slot i).state = .free → (∀ n < i, (s.staging.slot n).state ≠ .free) →
    s.staging.count .free ≤ s.values.lowWater →
    (s.staging.count .filling = 0 ∧ k = i) ∨ (k < 16 ∧ (s.staging.slot k).rank = some 1) →
    ∃ t, exec (.dataPhaseStart false hlanen had) s = .next t ∧
      t = ({ s with port := t.port, staging := t.staging, timer := t.timer } : State).closeStep ∧
      t.port = s.port.accepted (s.openCycle false hlanen had) ∧
      t.staging.queue = s.staging.queue ++ [k] ∧ t.staging.waiting = s.staging.waiting ∧
      (t.staging.slot k).state = .sealed ∧ (t.staging.slot k).rank = none ∧
      (k ≠ i → (t.staging.slot i).state = .filling ∧ (t.staging.slot i).rank = some (s.staging.count .filling) ∧
        t.staging.slot k = { s.staging.slot k with state := .sealed, rank := none } ∧
        t.timer = { s.timer with quiet := s.timer.quiet.map fun _ => s.now }) ∧
      (k = i → t.timer = { quiet := none, hold := none }) ∧
      (t.staging.slot i).page = some (pageOf s.port.latched) ∧
      (∀ o < 256, ((t.staging.slot i).data[o]?, (t.staging.slot i).written[o]?) =
        putAt (s.openCycle false hlanen had).bytes o ((s.staging.slot i).data[o]?, some false)) ∧
      ∀ n < 16, n ≠ i → n ≠ k → t.staging.slot n = { s.staging.slot n with rank := (s.staging.slot n).rank.map (· - 1) }

/-- DATA_PHASE_START of a write that needs a slot while none is FREE (R25): it becomes the waiting write, its cycle held. -/
def Obligations.WriteWaitsForSlot : Prop :=
  ∀ (hlanen : Bool) (had : BitVec 16) (s : State), s.inReset = false → s.port.cycle = none → s.ctl.mode = .ready →
    (s.openCycle false hlanen had).bytes ≠ [] → s.writeAllowed (s.openCycle false hlanen had) →
    s.staging.openSlot (pageOf s.port.latched) = none → (∀ k < 16, (s.staging.slot k).state ≠ .free) →
    exec (.dataPhaseStart false hlanen had) s = .next
      ({ s with
          port :=
            { s.port with
              hwaitn := false, cycle := some { s.openCycle false hlanen had with cond := .writeWaiting } }
          staging :=
            { s.staging with
              waiting := some
                { page := pageOf s.port.latched
                  bytes := (s.openCycle false hlanen had).bytes.map fun b => (b.addr.toNat % 256, b.data) } } } : State).closeStep

/-- The read merge's slot layers (R36): the page's open slot supplies a byte it holds, and its COMMITTING slot only a byte that
no open slot holds. -/
def Obligations.OpenSlotSuppliesByteFirst : Prop :=
  ∀ (s : State) (page offset i : Nat) (v : Byte), s.StagingLaw → i < 16 → (s.staging.slot i).page = some page →
    (s.staging.slot i).byte offset = some v →
    ((s.staging.slot i).isOpen = true → s.staging.layeredByte page offset = some v) ∧
      ((s.staging.slot i).state = .committing →
        (∀ k < 16, (s.staging.slot k).isOpen = true → (s.staging.slot k).page = some page → (s.staging.slot k).byte offset = none) →
        s.staging.layeredByte page offset = some v)

/-- DATA_PHASE_START of a read whose bytes slots supply (R36, R37, R136, R144): answered at once, each byte on its lane, 0xFF on
a lane of a 16-bit port with no byte; no link request is made. -/
def Obligations.ReadAnsweredFromSlots : Prop :=
  ∀ (hlanen : Bool) (had : BitVec 16) (s : State), s.inReset = false → s.port.cycle = none →
    s.ctl.mode = .ready ∨ s.ctl.mode = .readOnly ∨ s.ctl.mode = .drain → (s.openCycle true hlanen had).bytes ≠ [] →
    (∀ b ∈ (s.openCycle true hlanen had).bytes, s.staging.layeredByte (pageOf b.addr) (offsetOf b.addr) ≠ none) →
    ∃ low high, exec (.dataPhaseStart true hlanen had) s = .next
        ({ s with
            port :=
              { s.port with
                hwaitn := true, cycle := some { s.openCycle true hlanen had with cond := .answered }
                hadLow := some low, hadHigh := if s.ctl.wide then some high else s.port.hadHigh } } : State).closeStep ∧
      (∀ b ∈ (s.openCycle true hlanen had).bytes,
        s.staging.layeredByte (pageOf b.addr) (offsetOf b.addr) = some (if b.lane = .low then low else high)) ∧
      ((∀ b ∈ (s.openCycle true hlanen had).bytes, b.lane ≠ .low) → low = 0xFF) ∧
      ((∀ b ∈ (s.openCycle true hlanen had).bytes, b.lane ≠ .high) → high = 0xFF)

/-- DATA_PHASE_START of a read with bytes that no slot supplies (R37, R38, R117, R118): the cycle is held with the slot bytes taken
now, and one run over the others is requested, or held back while a run is still being carried out; an erase whose progress guard
has passed is suspended for it at once, SUSPEND issued and the run committed. That the guard has passed when the time since the
erase began or was resumed is at least the guard is the model's reading (log entry 9), and the link event poll is the model's choice
(log entry 20). -/
def Obligations.ReadRequestsFlashRun : Prop :=
  ∀ (hlanen : Bool) (had : BitVec 16) (s : State) (offset : Nat) (more : List Nat), s.inReset = false → s.port.cycle = none →
    s.ctl.mode = .ready ∨ s.ctl.mode = .readOnly ∨ s.ctl.mode = .drain →
    ((s.openCycle true hlanen had).bytes.filter fun b =>
        (s.staging.layeredByte (pageOf b.addr) (offsetOf b.addr)).isNone).map (fun b => offsetOf b.addr) = offset :: more →
    let run : Run :=
      { page := pageOf s.port.latched, offset := offset, len := more.length + 1, committed := false, discard := false }
    let port : HostPort :=
      { s.port with
        hwaitn := false
        cycle := some
          { s.openCycle true hlanen had with
            cond := .readWaiting
            taken := (s.openCycle true hlanen had).bytes.map fun b =>
              s.staging.layeredByte (pageOf b.addr) (offsetOf b.addr) } }
    (s.guardPassed = false →
      exec (.dataPhaseStart true hlanen had) s = .next
        (if s.link.runBusy then ({ s with port := port, heldRun := some run } : State).closeStep
          else
            ({ s with
                port := port
                link := { s.link with requests := { s.link.requests with hostRead := some run } } } : State).closeStep)) ∧
    ∀ (user : LinkUser) (p x : Nat) (e : EraseRecord),
      s.link.op = some { user := user, op := .erase p, stage := .polling x } → s.link.erasing = some e →
      e.progress = .running → s.values.guard ≤ s.now - e.since → s.link.requests.hostRead = none →
      exec (.dataPhaseStart true hlanen had) s = .next
        ({ s with
            port := port
            link :=
              { s.link with
                erasing := some { e with accrued := e.accrued + (s.now - e.since), progress := .suspending s.now }
                requests := { s.link.requests with hostRead := some { run with committed := true } } }
            wire := s.wire ++ [.suspend, .poll] } : State).closeStep

/-- DATA_PHASE_END of an answered cycle, or of one held for the mount or with its write waiting (R133, R145, R146): the pins are
released, and a waiting write is withdrawn. -/
def Obligations.DataPhaseEndReleasesPins : Prop :=
  ∀ (s : State) (c : Cycle), s.port.cycle = some c → c.cond ≠ .readWaiting →
    exec .dataPhaseEnd s = .next
      ({ s with
          port := { s.port with cycle := none, hwaitn := true, hfailn := true, hadLow := none, hadHigh := none }
          staging :=
            { s.staging with waiting := if c.cond = .writeWaiting then none else s.staging.waiting } } : State).closeStep

/-- DATA_PHASE_END and READY_HOLD_LIMIT_EXPIRY of a read waiting for its run (R117, R141, R146): a run held back is dropped; one
outstanding and not yet committed is withdrawn; a committed one, or one in progress, is left to be carried out with its bytes
discarded; the cycle is abandoned, or error-terminated. When the limit counts as run follows log entry 9. -/
def Obligations.WaitingReadEndsWithdrawingRun : Prop :=
  ∀ (s : State) (c : Cycle) (r : Run), s.port.cycle = some c → c.cond = .readWaiting →
    let ended (link : Link) : Prop :=
      exec .dataPhaseEnd s = .next
          ({ s with
              port := { s.port with cycle := none, hwaitn := true, hfailn := true, hadLow := none, hadHigh := none }
              heldRun := none
              link := link } : State).closeStep ∧
        (c.limit ≤ s.now - c.waitStart →
          exec .readyHoldLimitExpiry s =
            .next ({ s with port := s.port.refused c s.ctl.wide, heldRun := none, link := link } : State).closeStep)
    (s.heldRun ≠ none → ended s.link) ∧
    (s.heldRun = none → s.link.requests.hostRead = some r →
      ended { s.link with
        requests := { s.link.requests with hostRead := if r.committed then some { r with discard := true } else none } }) ∧
    ∀ user addr stage, s.heldRun = none → s.link.requests.hostRead = none →
      s.link.op = some { user := user, op := .hostRun r addr, stage := stage } →
      ended { s.link with op := some { user := user, op := .hostRun { r with discard := true } addr, stage := stage } }

/-- READY_HOLD_LIMIT_EXPIRY (R141, R142): a cycle held for the mount, or with its write waiting, is error-terminated and the
write withdrawn; an expiry that finds the cycle answered does nothing. When the limit counts as run follows log entry 9. -/
def Obligations.HoldLimitEndsHeldCycle : Prop :=
  ∀ (s : State) (c : Cycle), s.port.cycle = some c → c.limit ≤ s.now - c.waitStart →
    (c.cond = .heldForMount →
      exec .readyHoldLimitExpiry s = .next ({ s with port := s.port.refused c s.ctl.wide } : State).closeStep) ∧
    (c.cond = .writeWaiting →
      exec .readyHoldLimitExpiry s = .next
        ({ s with port := s.port.refused c s.ctl.wide, staging := { s.staging with waiting := none } } : State).closeStep) ∧
    (c.cond = .answered ∨ c.cond = .answeredError → exec .readyHoldLimitExpiry s = .next s)

/-- WAITING_WRITE_REDECIDE when a slot has become FREE (R26, R23): the write is taken into the lowest one and its cycle answered
normally. -/
def Obligations.WaitingWriteTakenIntoFreedSlot : Prop :=
  ∀ (s : State) (w : PageWrite) (c : Cycle) (i : Nat), s.staging.waiting = some w → s.port.cycle = some c → c.isRead = false →
    s.staging.openSlot w.page = none → i < 16 → (s.staging.slot i).state = .free →
    (∀ k < i, (s.staging.slot k).state ≠ .free) → s.values.lowWater < s.staging.count .free →
    ∃ t, exec .waitingWriteRedecide s = .next t ∧
      t = ({ s with port := t.port, staging := t.staging, timer := t.timer } : State).closeStep ∧
      t.port = s.port.accepted c ∧ t.staging.waiting = none ∧ t.staging.queue = s.staging.queue ∧
      (∀ k < 16, k ≠ i → t.staging.slot k = s.staging.slot k) ∧
      (t.staging.slot i).state = .filling ∧ (t.staging.slot i).page = some w.page ∧
      (t.staging.slot i).rank = some (s.staging.count .filling + 1) ∧
      ∀ o < 256, (t.staging.slot i).byte o = ((w.bytes.filter fun b => b.1 == o).getLast?).map (·.2)

/-! ## Sealing, the power warning, reset and power -/

/-- The seal-alls of FLUSH and of an expired count (R29, R153, R154): every FILLING slot is sealed in rank order and both
counts stop; a FLUSH edge with no slot FILLING, or one in reset, changes nothing. When a count has expired follows log entry 9.
-/
def Obligations.SealAllQueuesFillingSlots : Prop :=
  ∀ s : State, s.StagingLaw →
    (s.inReset = false → ∃ t, exec .flushRisingEdge s = .next t ∧ s.staging.SealedAll t.staging ∧
      t = ({ s with staging := t.staging, timer := if s.staging.count .filling = 0 then s.timer else .stopped } : State).closeStep) ∧
    (s.inReset = true → exec .flushRisingEdge s = .next s) ∧
    (∀ since, s.timer.quiet = some since → s.values.quietMs * 1000 ≤ s.now - since →
      ∃ t, exec .quietCountExpiry s = .next t ∧ s.staging.SealedAll t.staging ∧
        t = ({ s with staging := t.staging, timer := .stopped } : State).closeStep) ∧
    (∀ since, s.timer.hold = some since → s.values.holdMs * 1000 ≤ s.now - since →
      ∃ t, exec .holdCountExpiry s = .next t ∧ s.staging.SealedAll t.staging ∧
        t = ({ s with staging := t.staging, timer := .stopped } : State).closeStep)

/-- POWER_WARNING_ASSERTION in READY (R156, R27, R95): DRAIN, or HALTED at once with no slot held and no job; every FILLING slot
sealed; a waiting write withdrawn and its cycle error-terminated; an ungranted request of the erase engine withdrawn. -/
def Obligations.PowerWarningStartsDrain : Prop :=
  ∀ s : State, s.StagingLaw → s.inReset = false → s.ctl.powerWarning = false → s.ctl.mode = .ready →
    ∃ t staging, exec .powerWarningAssertion s = .next t ∧ s.staging.SealedAll staging ∧
      t = ({ s with
              staging := { staging with waiting := none }
              port := t.port
              pool := { s.pool with eraser := if s.pool.eraser = .requesting then .idle else s.pool.eraser }
              timer := if s.staging.count .filling = 0 then s.timer else .stopped
              link :=
                { s.link with
                  requests :=
                    { s.link.requests with
                      erase := if s.pool.eraser = .requesting then false else s.link.requests.erase } }
              ctl :=
                { s.ctl with
                  powerWarning := true
                  mode := if s.engine.job = none ∧ s.staging.count .free = 16 then .halted else .drain } } : State).closeStep ∧
      (∀ c w, s.port.cycle = some c → s.staging.waiting = some w → t.port = s.port.refused c s.ctl.wide) ∧
      (s.staging.waiting = none → t.port = s.port)

/-- POWER_WARNING_ASSERTION in READ_ONLY (R158): the mode becomes HALTED, and nothing else changes. -/
def Obligations.PowerWarningHaltsReadOnly : Prop :=
  ∀ s : State, s.inReset = false → s.ctl.powerWarning = false → s.ctl.mode = .readOnly →
    exec .powerWarningAssertion s =
      .next ({ s with ctl := { s.ctl with powerWarning := true, mode := .halted } } : State).closeStep

/-- How DRAIN and HALTED are left (R157, R160): DRAIN_FINISHED halts a drain with every slot FREE and the engine idle, and not
before; POWER_WARNING_DEASSERTION leads to READY, or READ_ONLY with the latch set; slots, queue and counts stand. -/
def Obligations.DrainEndsOrWarningClears : Prop :=
  ∀ s : State,
    (s.ctl.mode = .drain → (∀ i < 16, (s.staging.slot i).state = .free) → s.engine.job = none →
      exec .drainFinished s = .next ({ s with ctl := { s.ctl with mode := .halted } } : State).closeStep) ∧
    (s.ctl.mode = .drain → (∃ i < 16, (s.staging.slot i).state ≠ .free) ∨ s.engine.job ≠ none →
      exec .drainFinished s = .next s.closeStep) ∧
    (s.inReset = false → s.ctl.powerWarning = true → s.ctl.mode = .drain ∨ s.ctl.mode = .halted →
      exec .powerWarningDeassertion s =
        .next ({ s with
                  ctl :=
                    { s.ctl with
                      powerWarning := false
                      mode := if s.ctl.degraded then .readOnly else .ready } } : State).closeStep)

/-- HALTED_POWER_DOWN and DOZE_COUNT_EXPIRY (R127, R129): an open read stream is closed, POWER_DOWN issued, the power state
DOWN, and the doze count stopped. When the count has expired follows log entry 9. -/
def Obligations.PowerDownClosesStream : Prop :=
  ∀ s : State,
    let down : State :=
      { s with
        link := { s.link with stream := none, power := .down }
        wire := s.wire ++ ((if s.link.stream.isSome then [.closeStream] else []) ++ [.powerDown]) }
    (s.ctl.mode = .halted → s.engine.job = none → s.pool.eraser = .idle → s.journal.activity = .idle →
      s.journal.requests = [] → s.link.op = none → s.link.suspended = false → s.link.requests = .empty →
      s.link.power = .awake →
      exec .haltedPowerDown s = .next { down with link := { down.link with doze := none, granted := none } }) ∧
    (∀ since, s.link.doze = some since → s.values.dozeMs * 1000 ≤ s.now - since →
      exec .dozeCountExpiry s = .next down.closeStep ∧ down.closeStep.link.doze = none ∧ down.closeStep.link.power = .down)

/-- RSTN_ASSERT and POWER_ON (R148, R164): every block at its reset value, an open read stream closed by the assertion; the
causes of reset are RSTn low, and the internal reset. The flags of the two causes, and the logged close, are the model's (log
entries 15 and 19). -/
def Obligations.ResetCommandsResetEveryBlock : Prop :=
  ∀ s : State,
    exec .rstnAssert s = .next
        { State.reset with
          now := s.now, pending := s.pending
          wire := if s.link.stream.isSome then s.wire ++ [.closeStream] else s.wire
          ctl := { State.reset.ctl with rstnLow := true, internalReset := s.ctl.internalReset } } ∧
      exec .powerOn s = .next
        { State.reset with
          now := s.now, pending := s.pending, wire := s.wire
          ctl := { State.reset.ctl with rstnLow := false, internalReset := true } }

/-- RESET_RELEASE and INTERNAL_RESET_END (R155, R164, R167, R168, R169): the straps and the power-warning level are sampled;
with neither cause of reset left the mount begins, its record empty, with a wake that issues POWER_UP. That both causes must be
clear is the model's reading (log entry 15). -/
def Obligations.ResetEndBeginsMount : Prop :=
  ∀ (wide fmt svc pwrwarnn : Bool) (s : State), s.link.stream = none →
    let ctl := { s.ctl with wide := wide, fmt := fmt, svc := svc, powerWarning := !pwrwarnn }
    let begun : State :=
      { s with
        ctl := { ctl with rstnLow := false, internalReset := false, mount := some MountRecord.start }
        link := { s.link with power := .waking, op := some { user := .mount, op := .wake, stage := .waking s.now } }
        wire := s.wire ++ [.powerUp] }
    (s.ctl.rstnLow = true → s.ctl.internalReset = false →
      exec (.resetRelease wide fmt svc pwrwarnn) s = .next begun.closeStep) ∧
    (s.ctl.rstnLow = false → s.ctl.internalReset = true →
      exec (.internalResetEnd wide fmt svc pwrwarnn) s = .next begun.closeStep) ∧
    (s.ctl.rstnLow = true → s.ctl.internalReset = true →
      exec (.resetRelease wide fmt svc pwrwarnn) s =
          .next ({ s with ctl := { ctl with rstnLow := false } } : State).closeStep ∧
        exec (.internalResetEnd wide fmt svc pwrwarnn) s =
          .next ({ s with ctl := { ctl with internalReset := false } } : State).closeStep)

/-! ## The flash link -/

/-- LINK_GRANT of a host read run, granted before or now (R10, R115, R117, R122, R123, R128): translated through the map at the
grant; it continues the open stream when its address is the stream's next one, else closes it and issues READ; a flash DOWN or
UNKNOWN is woken. That a run which the arbiter granted in an earlier step is begun, and translated, at LINK_GRANT is the model's
choice (log entry 10). -/
def Obligations.HostRunGranted : Prop :=
  ∀ (s : State) (r : Run) (p addr : Nat), s.link.op = none →
    (∀ l, s.link.granted = some l → l = .hostRead ∨ s.link.requests.holds l = false) → s.link.requests.hostRead = some r →
    s.tables.entry (r.page / 16) = some p → addr = p * 4096 + r.page % 16 * 256 + r.offset →
    let run : FlashOp := .hostRun { r with committed := true } addr
    let requests := { s.link.requests with hostRead := none }
    let closing : List LinkEvent := if s.link.stream.isSome then [.closeStream] else []
    (s.link.power = .awake → s.link.stream = some addr →
      exec .linkGrant s = .next
        ({ s with
            link := { s.link with requests := requests, op := some { user := .readService, op := run, stage := .reading } }
            wire := s.wire ++ [.continueRead r.len] } : State).closeStep) ∧
    (s.link.power = .awake → s.link.stream ≠ some addr →
      exec .linkGrant s = .next
        ({ s with
            link :=
              { s.link with
                requests := requests, stream := none
                op := some { user := .readService, op := run, stage := .reading } }
            wire := s.wire ++ (closing ++ [.read addr r.len]) } : State).closeStep) ∧
    (s.link.power = .down ∨ s.link.power = .unknown →
      exec .linkGrant s = .next
        ({ s with
            link :=
              { s.link with
                requests := requests, stream := none, power := .waking
                op := some { user := .readService, op := run, stage := .waking s.now } }
            wire := s.wire ++ (closing ++ [.powerUp]) } : State).closeStep)

/-- The arbiter at the end of a step (R114, R115, R117, R120): a grant made stands while its request does; with no grant, or its
request withdrawn (R95), a link without an operation is granted to the highest outstanding level, during a suspension to a host
read run only, which is committed by it. A take that is due, or a journal request that an idle journal has to begin, holds its
requester's level (R45, R75). And LINK_GRANT below the host's level, the flash awake: a program begins with ENABLE_WRITE and
STATUS (R110); the commit engine's erase of a spare is begun if the spare is still dirty, its retirement not asked for and the
latch clear, else ends with nothing issued and a target is asked for again (R92); the erase engine's erase takes the first stale
journal sector after the active one, else the first dirty spare, else nothing (R96). That LINK_GRANT, as a command, begins what
has been granted, and that a step which is due holds its level until its command comes, is the model's choice (log entry 10). -/
def Obligations.GrantFollowsPriority : Prop :=
  let noGrant (s : State) : Prop := ∀ l, s.link.granted = some l → s.link.requests.holds l = false
  let takeDue (s : State) : Prop :=
    s.engine.job = none ∧ (s.ctl.mode = .ready ∨ s.ctl.mode = .drain) ∧ s.staging.queue ≠ []
  let beginDue (s : State) (who : Requester) : Prop :=
    s.journal.activity = .idle ∧ ∃ q rest, s.journal.requests = q :: rest ∧
      (who = .commitEngine ↔ ∃ e, q = .append .commitEngine e)
  (∀ s : State, ∃ g,
    s.closeStep =
        ({ s with
            link :=
              { s.link with
                granted := g
                requests :=
                  { s.link.requests with
                    hostRead :=
                      if g = some .hostRead then s.link.requests.hostRead.map fun r => { r with committed := true }
                      else s.link.requests.hostRead } } } : State).refreshDoze ∧
      (s.link.op ≠ none → g = none) ∧
      (∀ l, s.link.op = none → s.link.granted = some l → s.link.requests.holds l = true → g = some l) ∧
      (s.link.op = none → noGrant s →
        (s.link.requests.hostRead ≠ none → g = some .hostRead) ∧
        (s.link.requests.hostRead = none → s.link.suspended = true → g = none) ∧
        (s.link.requests.hostRead = none → s.link.suspended = false →
          (s.link.requests.commit ≠ none → g = some .commit) ∧
          (s.link.requests.commit = none → takeDue s ∨ beginDue s .commitEngine → g = none) ∧
          (s.link.requests.commit = none → ¬takeDue s → ¬beginDue s .commitEngine →
            (s.link.requests.eraseJournal ≠ none → g = some .eraseJournal) ∧
            (s.link.requests.eraseJournal = none → beginDue s .eraseEngine → g = none) ∧
            (s.link.requests.eraseJournal = none → ¬beginDue s .eraseEngine →
              g = if s.link.requests.erase then some .erase else none))))) ∧
  ∀ (s : State) (user : LinkUser) (addr p : Nat) (data : List Byte), s.link.op = none → s.link.suspended = false →
    s.link.power = .awake →
    let begun (pool : SparePool) (requests : Requests) (user : LinkUser) (o : FlashOp) : State :=
      { s with
        pool := pool
        link :=
          { s.link with
            requests := requests, stream := none, op := some { user := user, op := o, stage := .writeEnable } }
        wire := s.wire ++ ((if s.link.stream.isSome then [.closeStream] else []) ++ [.enableWrite, .status]) }
    let noCommit := { s.link.requests with commit := none }
    let noErase := { s.link.requests with erase := false }
    let stale (d : Nat) : Prop :=
      ∃ a, s.journal.active = some a ∧ s.tables.usable ((a + d) % 8) = true ∧
        flagAt s.journal.pendingErase ((a + d) % 8) = true
    (s.link.granted = some .commit ∨ noGrant s ∧ s.link.requests.hostRead = none →
      (s.link.requests.commit = some (user, .program addr data) →
        exec .linkGrant s = .next (begun s.pool noCommit user (.program addr data)).closeStep) ∧
      (s.link.requests.commit = some (.commitEngine, .erase p) → (s.tables.record p).state = some .spareDirty →
        (s.tables.record p).retirePending = false → s.ctl.degraded = false →
        exec .linkGrant s = .next (begun s.pool noCommit .commitEngine (.erase p)).closeStep) ∧
      (∀ j, s.StagingLaw → s.link.requests.commit = some (.commitEngine, .erase p) → s.engine.job = some j →
        (s.tables.record p).state ≠ some .spareDirty ∨ (s.tables.record p).retirePending = true ∨ s.ctl.degraded = true →
        ∃ t, exec .linkGrant s = .next t.closeStep ∧
          ({ s with link := { s.link with granted := none, requests := noCommit } } : State).TargetAnswered t j)) ∧
    (s.link.granted = some .eraseJournal ∨
        noGrant s ∧ s.link.requests.hostRead = none ∧ s.link.requests.commit = none ∧ ¬takeDue s ∧
          ¬beginDue s .commitEngine →
      s.link.requests.eraseJournal = some (.program addr data) →
      exec .linkGrant s = .next
        (begun s.pool { s.link.requests with eraseJournal := none } .journal (.program addr data)).closeStep) ∧
    (s.link.granted = some .erase ∨
        noGrant s ∧ s.link.requests.hostRead = none ∧ s.link.requests.commit = none ∧
          s.link.requests.eraseJournal = none ∧ ¬takeDue s ∧ (∀ who, ¬beginDue s who) → s.link.requests.erase = true →
      (∀ a d, s.ctl.mode = .ready → s.journal.active = some a → 1 ≤ d → d ≤ 7 → p = (a + d) % 8 → stale d →
        (∀ k, 1 ≤ k → k < d → ¬stale k) →
        exec .linkGrant s = .next
          (begun { s.pool with eraser := .erasingJournal p } noErase .eraseEngine (.erase p)).closeStep) ∧
      (s.ctl.mode = .ready → (∀ k, 1 ≤ k → k ≤ 7 → ¬stale k) → s.firstSpare .spareDirty p →
        exec .linkGrant s = .next
          (begun { s.pool with eraser := .erasingSpare p } noErase .eraseEngine (.erase p)).closeStep) ∧
      (s.ctl.mode ≠ .ready ∨ (∀ k, 1 ≤ k → k ≤ 7 → ¬stale k) ∧ s.noSpare .spareDirty →
        exec .linkGrant s = .next
          ({ s with
              pool := { s.pool with eraser := .idle }
              link := { s.link with granted := none, requests := noErase } } : State).closeStep))

/-- WAKE_INTERVAL_END (R128, R169): 40 µs after POWER_UP the flash is AWAKE, and the granted operation issues its first command: a
read its READ, a program or an erase its ENABLE_WRITE and STATUS (R109, R110); a wake for its own sake is followed by the settle.
The link event poll is the model's (log entry 20), and when the interval has passed follows log entry 9. -/
def Obligations.WakeGoesOnWithOperation : Prop :=
  ∀ (s : State) (user : LinkUser) (o : FlashOp) (since : Nat), 40 ≤ s.now - since → s.link.stream = none →
    s.link.op = some { user := user, op := o, stage := .waking since } →
    let goesOn (stage : OpStage) (events : List LinkEvent) : Prop :=
      exec .wakeIntervalEnd s = .next
        ({ s with
            link := { s.link with power := .awake, op := some { user := user, op := o, stage := stage } }
            wire := s.wire ++ events } : State).closeStep
    (∀ run addr, o = .hostRun run addr → goesOn .reading [.read addr run.len]) ∧
    (∀ addr, o = .pageRead addr → goesOn .reading [.read addr 256]) ∧
    (∀ addr len, o = .readBack addr len → goesOn .reading [.read addr len]) ∧
    (∀ addr len, o = .mountRead addr len → goesOn .reading [.read addr len]) ∧
    (∀ addr data, o = .program addr data → goesOn .writeEnable [.enableWrite, .status]) ∧
    (∀ p, o = .erase p → goesOn .writeEnable [.enableWrite, .status]) ∧
    (∀ m, o = .wake → s.ctl.mount = some m →
      exec .wakeIntervalEnd s = .next
        ({ s with
            link := { s.link with power := .awake, op := some { user := .mount, op := .settle, stage := .settling s.now none } }
            ctl := { s.ctl with mount := some { m with step := .settle } }
            wire := s.wire ++ [.poll] } : State).closeStep)

/-- Write enable (R110): a program or an erase begins with ENABLE_WRITE and STATUS; at WRITE_ENABLE_STATUS with WEL set the
PROGRAM or ERASE is issued; with WEL clear it is not, and the link faults; the other bits of the status play no part. The link
event poll is the model's (log entry 20). -/
def Obligations.WriteEnableIssuesOrFaults : Prop :=
  ∀ (s : State) (user : LinkUser) (addr p : Nat) (data : List Byte) (st : Byte),
    (∀ o : FlashOp, s.link.power = .awake → o = .program addr data ∨ o = .erase p →
      s.startOp user o =
        { s with
          link := { s.link with stream := none, op := some { user := user, op := o, stage := .writeEnable } }
          wire := s.wire ++ ((if s.link.stream.isSome then [.closeStream] else []) ++ [.enableWrite, .status]) }) ∧
    (∀ other : Byte, other.getLsbD 1 = st.getLsbD 1 → exec (.writeEnableStatus other) s = exec (.writeEnableStatus st) s) ∧
    (s.link.op = some { user := user, op := .program addr data, stage := .writeEnable } → st.getLsbD 1 = true →
      exec (.writeEnableStatus st) s = .next
        ({ s with
            link := { s.link with op := some { user := user, op := .program addr data, stage := .polling s.now } }
            wire := s.wire ++ [.program addr data, .poll] } : State).closeStep) ∧
    (s.link.op = some { user := user, op := .erase p, stage := .writeEnable } → st.getLsbD 1 = true →
      exec (.writeEnableStatus st) s = .next
        ({ s with
            link :=
              { s.link with
                op := some { user := user, op := .erase p, stage := .polling s.now }
                erasing := some { sector := p, user := user, accrued := 0, since := s.now, progress := .running } }
            wire := s.wire ++ [.erase (p * 4096), .poll] } : State).closeStep) ∧
    (s.link.op = some { user := user, op := .program addr data, stage := .writeEnable } ∨
        s.link.op = some { user := user, op := .erase p, stage := .writeEnable } → st.getLsbD 1 = false →
      ∃ t, exec (.writeEnableStatus st) s = .next t ∧ s.Faulted t)

/-- SUSPEND_LATENCY_EXPIRY and BUSY_LIMIT_EXPIRY (R111, R112, R119, R120, R130, R166): a flag awaited for 200 µs after SUSPEND
or RESUME, a program busy for more than 4 ms and an erase or a settle for more than 600 ms are link faults; the mode becomes
FAULT and every block discards its state. When a limit counts as passed follows log entry 9. -/
def Obligations.LinkLimitsEndInFault : Prop :=
  ∀ (s : State) (user : LinkUser) (e : EraseRecord) (p first since addr : Nat) (data : List Byte),
    (s.link.erasing = some e → e.progress = .suspending since ∨ e.progress = .resuming since → 200 ≤ s.now - since →
      ∃ t, exec .suspendLatencyExpiry s = .next t ∧ s.Faulted t) ∧
    (s.link.op = some { user := user, op := .settle, stage := .settling first (some since) } → 200 ≤ s.now - since →
      ∃ t, exec .suspendLatencyExpiry s = .next t ∧ s.Faulted t) ∧
    (s.link.op = some { user := user, op := .program addr data, stage := .polling since } → 4000 < s.now - since →
      ∃ t, exec .busyLimitExpiry s = .next t ∧ s.Faulted t) ∧
    (s.link.op = some { user := user, op := .erase p, stage := .polling since } → s.link.erasing = some e →
      e.progress = .running → 600000 < e.accrued + (s.now - e.since) →
      ∃ t, exec .busyLimitExpiry s = .next t ∧ s.Faulted t) ∧
    (s.link.op = some { user := user, op := .settle, stage := .settling first none } → 600000 < s.now - first →
      ∃ t, exec .busyLimitExpiry s = .next t ∧ s.Faulted t)

/-- PROGRESS_GUARD_PASSES, SUSPEND_STATUS and RESUME_STATUS of an erase (R117 to R120): with a host read waiting and the guard
passed, SUSPEND is issued, the running time closed and the run committed; SUSP set and BUSY clear leaves the link to host reads;
both clear is the outcome of the erase, as ERASE_END would have it; BUSY set, and polling goes on (R119). SUSP clear after
RESUME starts the running time and the guard again from the close of RESUME; SUSP set, and polling goes on. And, in every state
whose operation is a settle, SETTLE_END and RESUME_STATUS (R130): BUSY set, and polling goes on; SUSP set and BUSY clear issues
RESUME and waits for SUSP to clear; SUSP clear leads to polling for BUSY. That the guard has passed when the time since the
erase began or was resumed is at least the guard is the model's reading (log entry 9), and the link event poll is the model's
choice (log entry 20). -/
def Obligations.EraseSuspendedAndResumed : Prop :=
  (∀ (s : State) (e : EraseRecord) (r : Run) (p x since : Nat) (st : Byte), s.link.erasing = some e →
    (s.link.op = some { user := e.user, op := .erase p, stage := .polling x } → e.progress = .running →
      s.values.guard ≤ s.now - e.since → s.link.requests.hostRead = some r →
      exec .progressGuardPasses s = .next
        ({ s with
            link :=
              { s.link with
                erasing := some { e with accrued := e.accrued + (s.now - e.since), progress := .suspending s.now }
                requests := { s.link.requests with hostRead := some { r with committed := true } } }
            wire := s.wire ++ [.suspend, .poll] } : State).closeStep) ∧
    (e.progress = .suspending since → s.link.requests.hostRead = some r → st.getLsbD 0 = false → st.getLsbD 2 = true →
      exec (.suspendStatus st) s = .next
        ({ s with link := { s.link with op := none, erasing := some { e with progress := .suspended } } } : State).closeStep) ∧
    (s.link.op = some { user := e.user, op := .erase p, stage := .polling x } → e.progress = .suspending since →
      st.getLsbD 0 = false → st.getLsbD 2 = false →
      exec (.suspendStatus st) s =
        exec (.eraseEnd st) { s with link := { s.link with erasing := some { e with progress := .running } } }) ∧
    (e.progress = .suspending since → st.getLsbD 0 = true → exec (.suspendStatus st) s = .next s) ∧
    (s.link.op = some { user := e.user, op := .erase p, stage := .polling x } → st.getLsbD 2 = true →
      exec (.resumeStatus st) s = .next s) ∧
    (s.link.op = some { user := e.user, op := .erase p, stage := .polling x } → e.progress = .resuming since →
      st.getLsbD 2 = false →
      exec (.resumeStatus st) s = .next
        ({ s with link := { s.link with erasing := some { e with since := since, progress := .running } } } : State).closeStep)) ∧
  ∀ (s : State) (user : LinkUser) (first since : Nat) (st : Byte),
    let settling (waits : Option Nat) : Option LinkOp := some { user := user, op := .settle, stage := .settling first waits }
    (s.link.op = settling none →
      (st.getLsbD 0 = true → exec (.settleEnd st) s = .next s) ∧
      (st.getLsbD 0 = false → st.getLsbD 2 = true →
        exec (.settleEnd st) s = .next
          ({ s with link := { s.link with op := settling (some s.now) }, wire := s.wire ++ [.resume, .poll] } : State).closeStep)) ∧
    (s.link.op = settling (some since) →
      (st.getLsbD 2 = true → exec (.resumeStatus st) s = .next s) ∧
      (st.getLsbD 2 = false →
        exec (.resumeStatus st) s = .next ({ s with link := { s.link with op := settling none } } : State).closeStep))

/-- HOST_READ_RUN_END (R38, R117, R120, R122, R136): the run's bytes and the slot bytes taken at presentation are combined on the
lanes, 0xFF on a lane of a 16-bit port with no byte; a discarded run leaves the port alone. The stream stays open at the address
after the run; a run held back is requested now; and in a suspension with no run left to serve the stream is closed and RESUME
issued. The link event poll is the model's (log entry 20). -/
def Obligations.RunEndAnswersRead : Prop :=
  ∀ (s : State) (r : Run) (addr : Nat) (port : HostPort) (bytes : List Byte),
    s.link.op = some { user := .readService, op := .hostRun r addr, stage := .reading } → bytes.length = r.len →
    (r.discard = true ∧ port = s.port) ∨
      (r.discard = false ∧ ∃ (c : Cycle) (low high : Byte), s.port.cycle = some c ∧ c.cond = .readWaiting ∧ c.isRead = true ∧
        port =
          { s.port with
            cycle := some { c with cond := .answered }, hwaitn := true, hadLow := some low
            hadHigh := if s.ctl.wide then some high else s.port.hadHigh } ∧
        ((∃ b v, c.bytes = [b] ∧ c.taken = [none] ∧ bytes = [v] ∧
            (b.lane = .low ∧ low = v ∧ high = 0xFF ∨ b.lane = .high ∧ low = 0xFF ∧ high = v)) ∨
          ∃ b0 b1 x y, c.bytes = [b0, b1] ∧ b0.lane = .low ∧ b1.lane = .high ∧ c.taken = [x, y] ∧
            (x = some low ∧ y = none ∧ bytes = [high] ∨ x = none ∧ y = some high ∧ bytes = [low] ∨
              x = none ∧ y = none ∧ bytes = [low, high]))) →
    let stream := (addr + r.len) % 2097152
    (s.heldRun = none → s.link.suspended = false →
      exec (.hostReadRunEnd bytes) s = .next
        ({ s with port := port, link := { s.link with op := none, stream := some stream } } : State).closeStep) ∧
    (∀ q, s.heldRun = some q → s.link.requests.hostRead = none →
      exec (.hostReadRunEnd bytes) s = .next
        ({ s with
            port := port, heldRun := none
            link :=
              { s.link with
                op := none, stream := some stream
                requests := { s.link.requests with hostRead := some q } } } : State).closeStep) ∧
    (∀ e, s.heldRun = none → s.link.erasing = some e → e.progress = .suspended → s.link.requests.hostRead = none →
      exec (.hostReadRunEnd bytes) s = .next
        ({ s with
            port := port
            link :=
              { s.link with
                stream := none
                op := some { user := e.user, op := .erase e.sector, stage := .polling e.since }
                erasing := some { e with progress := .resuming s.now } }
            wire := s.wire ++ [.closeStream, .resume, .poll] } : State).closeStep)

/-! ## The commit engine -/

/-- COMMIT_TAKE (R31, R44, R45): an idle engine in READY or DRAIN takes the head of the queue and every other queued slot of its
sector: they become COMMITTING and leave the queue; the job holds them ordered by page, its source the map's sector. With in-place
commits allowed the first job page is asked for (R48); under RELOCATE_ONLY the job is a relocation at once, and a target is asked for
(R47, R54, R90). -/
def Obligations.TakeFormsJobOfOneSector : Prop :=
  ∀ s : State, s.StagingLaw → s.engine.job = none → s.ctl.mode = .ready ∨ s.ctl.mode = .drain → s.staging.queue ≠ [] →
    ∃ t, exec .commitTake s = .next t.closeStep ∧ s.JobTaken t

/-- PAGE_READ_END in the three phases that read the source. In DECIDE (R47, R48): with every present byte of the page's slot
compatible (R49) the next job page is read, or after the last one the first again, the job now in place; else a target is asked
for. In PROGRAM_IN_PLACE and COPY the slot's bytes are laid over the page read (R46): the image is programmed into source (R50) or
target (R56) at the cursor; an image equal to the page read, or in COPY a blank one, is passed over, the next page read, and the last one
followed by the job's good end, the next take asked for with it (R52, R33, R60, R45), or by the append of REMAP (R59, R75, R76). That the take after a
job's end comes before the re-decision of a waiting write is the model's choice (log entry 31). -/
def Obligations.CopyProgramsMergedPage : Prop :=
  ∀ (s : State) (j : Job) (a : Nat) (bytes : List Byte),
    s.link.op = some { user := .commitEngine, op := .pageRead a, stage := .reading } → bytes.length = 256 →
    s.engine.job = some j → s.onePerPage j →
    let page (job : Job) : FlashOp := .pageRead (j.source * 4096 + job.cursor * 256)
    let answers (t : State) : Prop := exec (.pageReadEnd bytes) s = .next t.closeStep
    let fits : Prop := ∀ i o v w, o < 256 → s.holdsPage j j.cursor i → (s.staging.slot i).byte o = some v → bytes[o]? = some w →
      v &&& w = v
    (j.phase = .decide → fits → ∀ q, s.firstPage j (j.cursor + 1) q →
      answers (s.engineAsks { j with cursor := q } s.engine.workPage (page { j with cursor := q }))) ∧
    (j.phase = .decide → fits → s.noPage j (j.cursor + 1) → ∀ q, s.firstPage j 0 q →
      answers (s.engineAsks { j with kind := .inPlace, cursor := q, phase := .programInPlace } s.engine.workPage
        (page { j with cursor := q }))) ∧
    (s.StagingLaw → j.phase = .decide → ¬fits →
      let k := { j with kind := .relocate, cursor := 0, phase := .allocate, awaited := none }
      ∃ t, answers t ∧ ({ s with
        engine := { s.engine with job := some k }, link := { s.link with op := none } } : State).TargetAnswered t k) ∧
    ∃ image, s.Merged j j.cursor bytes image ∧
      let done : State := { s with engine := { s.engine with workPage := image }, link := { s.link with op := none } }
      (j.phase = .programInPlace → j.kind = .inPlace →
        (image ≠ bytes → answers (s.engineAsks j image (.program (j.source * 4096 + j.cursor * 256) image))) ∧
        (image = bytes → s.StagingLaw → ∃ t, answers t ∧ done.PageDone t j)) ∧
      (∀ target, j.phase = .copy → j.kind = .relocate → j.target = some target →
        ((∃ v ∈ image, v ≠ 0xFF) → answers (s.engineAsks j image (.program (target * 4096 + j.cursor * 256) image))) ∧
        ((∀ v ∈ image, v = 0xFF) → s.StagingLaw → ∃ t, answers t ∧ done.PageDone t j))

/-- The ends of a job's page write, PROGRAM_END and READ_BACK_END. Programmed well with verify on, the page is read back (R51). Done,
with verify off or by a match, the next page follows (R50, R56). Failed in place, the job falls back to a relocation with the cause
kept, and a target is asked for (R53). Failed in a relocation (R57, R8), the target is marked retire pending and its RETIRE requested;
or, that being refused at the cap, the latch is set and the job abandoned (R61). And the completion of a RETIRE, with verify off or
on (R14, R76): the sector is RETIRED and off the spare list, the latch set when 64 are retired; after a target's RETIRE a new target
is asked for, or after the third the latch set and the job abandoned (R57, R58); after a spare's a target is asked for (R55); after
the source's the job ends (R60); after one of the erase engine its turn ends (R99). That the take after a
job's end comes before the re-decision of a waiting write is the model's choice (log entry 31). -/
def Obligations.PageProgramEndVerifiesOrRetires : Prop :=
  (∀ (s : State) (c : Instr) (j : Job), s.engine.job = some j →
    let after : State := { s with link := { s.link with op := none } }
    let answers (t : State) : Prop := exec c s = .next t.closeStep
    (∀ sector st a data since, c = .programEnd st →
      s.link.op = some { user := .commitEngine, op := .program a data, stage := .polling since } → st.getLsbD 0 = false →
      st.getLsbD 3 = false → s.values.verify = true →
      (j.kind = .inPlace ∧ sector = j.source ∨ j.kind = .relocate ∧ j.target = some sector) →
      answers (s.engineAsks { j with phase := .verify } s.engine.workPage (.readBack (sector * 4096 + j.cursor * 256) 256))) ∧
    (s.pageGood c → s.StagingLaw → j.kind = .inPlace ∨ j.kind = .relocate → ∃ t, answers t ∧ after.PageDone t j) ∧
    (∀ cause, s.pageBad c cause → s.StagingLaw → j.kind = .inPlace →
      let k := { j with kind := .relocate, fallback := some cause, cursor := 0, phase := .allocate, awaited := none }
      ∃ t, answers t ∧ ({ after with engine := { s.engine with job := some k } } : State).TargetAnswered t k) ∧
    ∀ cause target, s.pageBad c cause → s.StagingLaw → j.kind = .relocate → j.target = some target →
      (s.tables.retiredCount + s.tables.pendingCount < 64 →
        ∃ t, answers t ∧
          ({ after with
              engine := { s.engine with job := some { j with phase := .journal, awaited := some .retireTarget } }
              tables := s.tables.setRecord target { s.tables.record target with retirePending := true } } : State).RequestTaken t
            (.append .commitEngine (.retire target cause))) ∧
      (64 ≤ s.tables.retiredCount + s.tables.pendingCount → ∃ t, answers t ∧ after.latched.JobAbandoned t j)) ∧
  ∀ (s : State) (c : Instr) (who : Requester) (p : Nat) (cause : RetireCause) (rest : List JournalRequest),
    s.appendGood c who (.retire p cause) rest → s.StagingLaw → p < 512 →
    let gone : State :=
      { s.appended rest with
        tables := s.tables.setRecord p { s.tables.record p with state := some .retired, owner := none, retirePending := false }
        pool := { s.pool with spares := s.pool.spares.filter (· != p) } }
    let retired : State := if gone.tables.retiredCount = 64 then gone.latched else gone
    let answers (t : State) : Prop := exec c s = .next t.closeStep
    (∀ j, who = .commitEngine → s.engine.job = some j →
      (j.awaited = some .retireTarget → j.attempt < 3 →
        let k := { j with target := none, attempt := j.attempt + 1, cursor := 0, phase := .allocate, awaited := none }
        ∃ t, answers t ∧ ({ retired with engine := { s.engine with job := some k } } : State).TargetAnswered t k) ∧
      (j.awaited = some .retireTarget → 3 ≤ j.attempt →
        let k := { j with target := none, awaited := none }
        ∃ t, answers t ∧ ({ retired with engine := { s.engine with job := some k } } : State).latched.JobAbandoned t k) ∧
      (j.awaited = some .retireSpare →
        let k := { j with cursor := 0, phase := .allocate, awaited := none }
        ∃ t, answers t ∧ ({ retired with engine := { s.engine with job := some k } } : State).TargetAnswered t k) ∧
      (j.awaited = some .retireSource → ∃ t, answers t ∧ retired.JobEnded t)) ∧
    (who = .eraseEngine → ∃ t, answers t ∧ retired.TurnEnded t)

/-- The completion of a REMAP, at PROGRAM_END with verify off and at a matching READ_BACK_END with verify on (R13, R76): the map entry,
the target's record, the source's record and place on the spare list and the job's slots change in one step; the append position goes
up by one, and the request leaves the list. With no fallback cause the job ends and the next take is asked for (R60, R45). With one
the source is marked retire pending and its RETIRE requested; or, that being refused at the cap, the latch is set and the job ends
(R60, R8). That the take after a
job's end comes before the re-decision of a waiting write is the model's choice (log entry 31). -/
def Obligations.RemapCompletionChangesFourParts : Prop :=
  ∀ (s : State) (c : Instr) (j : Job) (l new old : Nat) (cause : RemapCause) (rest : List JournalRequest),
    s.appendGood c .commitEngine (.remap l new old cause) rest → s.StagingLaw → s.engine.job = some j →
    l < 256 → new < 512 → old < 512 → new ≠ old →
    ∃ (g : Staging) (tables : Tables), s.SlotsFreed j g ∧
      (∀ k < 256, tables.entry k = if k = l then some new else s.tables.entry k) ∧
      (∀ p < 512, tables.record p =
        if p = new then { s.tables.record new with state := some .mapped, owner := some l }
        else if p = old then { s.tables.record old with state := some .spareDirty, owner := none }
        else s.tables.record p) ∧
      let moved : State :=
        { s.appended rest with staging := g, tables := tables, pool := { s.pool with spares := s.pool.spares ++ [old] } }
      let finishing : Job := { j with slots := [], target := none, phase := .finish, awaited := none }
      let answers (t : State) : Prop := exec c s = .next t.closeStep
      (j.fallback = none → ∃ t, answers t ∧ moved.JobEnded t) ∧
      ∀ failure, j.fallback = some failure →
        (tables.retiredCount + tables.pendingCount < 64 →
          ∃ t, answers t ∧
            ({ moved with
                engine := { s.engine with job := some { finishing with awaited := some .retireSource } }
                tables := tables.setRecord old { tables.record old with retirePending := true } } : State).RequestTaken t
              (.append .commitEngine (.retire old failure))) ∧
        (64 ≤ tables.retiredCount + tables.pendingCount → ∃ t, answers t ∧ moved.latched.JobEnded t)

/-! ## The map journal and the erase engine -/

/-- JOURNAL_NEXT_REQUEST of an append that the active sector can take (R70, R75, R76, R114): its entry is to be programmed at the
append position, at its requester's priority. Programmed well with verify on, the entry is read back (R76). An append that fails, at
PROGRAM_END or READ_BACK_END, withdraws the active sector (R78, R83): with the latch clear and three or more usable the next usable
sector is opened for the entry (R79); else the append fails (R77). Where a
failed request ends the job, the take comes before the re-decision of a waiting write, the model's choice (log entry 31). -/
def Obligations.AppendProgramsEntryAtPosition : Prop :=
  (∀ (s : State) (e : Payload) (a q : Nat) (rest : List JournalRequest), s.journal.activity = .idle →
    s.journal.active = some a → s.tables.usable a = true → s.journal.appendPos = some q → q ≤ 255 →
    let journal := { s.journal with activity := .appending, opening := none }
    let program : FlashOp := .program (a * 4096 + q * 16) (payloadImage e)
    (s.journal.requests = .append .commitEngine e :: rest →
      exec .journalNextRequest s = .next
        ({ s with
            journal := journal
            link :=
              { s.link with
                requests := { s.link.requests with commit := some (.journal, program) } } } : State).closeStep) ∧
    (s.journal.requests = .append .eraseEngine e :: rest →
      exec .journalNextRequest s = .next
        ({ s with
            journal := journal
            link :=
              { s.link with
                requests := { s.link.requests with eraseJournal := some program } } } : State).closeStep)) ∧
  ∀ (s : State) (c : Instr) (who : Requester) (e : Payload) (rest : List JournalRequest) (active : Nat),
    s.journal.active = some active →
    (∀ st a data since q, c = .programEnd st → s.journal.activity = .appending → s.journal.requests = .append who e :: rest →
      s.journal.opening = none → s.journal.appendPos = some q →
      s.link.op = some { user := .journal, op := .program a data, stage := .polling since } → st.getLsbD 0 = false →
      st.getLsbD 3 = false → s.values.verify = true →
      exec c s = .next
        (({ s with link := { s.link with op := none } } : State).journalAsks who (.readBack (active * 4096 + q * 16) 16)).closeStep) ∧
    (s.appendBad c who e rest → s.StagingLaw →
      let w := ({ s with link := { s.link with op := none } } : State).withdrawn active
      ∃ t, exec c s = .next t.closeStep ∧
        (w.ctl.degraded = false → 3 ≤ (List.range 8).countP (fun k => w.tables.usable k) → w.OpeningBegun t .entry who) ∧
        (w.ctl.degraded = true ∨ (List.range 8).countP (fun k => w.tables.usable k) < 3 → w.RequestFailed t))

/-- JOURNAL_NEXT_REQUEST (R75 to R80): the first request is begun; a full active sector has the next usable sector opened with the
next sequence number, erased first when its pending erase flag is set or it is the previous one, else its HEAD written at once; at
sequence exhaustion, or with the latch set, the request fails. And the opening, the map in force: an erased candidate gets its HEAD
(R79, R81); after the HEAD the checkpoint is taken, and written position by position, each read back with verify on (R81); then the
roles move, and the entry is appended or the recording's turn ends (R81, R84). A candidate that fails is withdrawn, its head voided
if issued, and the void read back (R82, R83); a void that leaves a valid head raises the sequence, sets the latch and abandons the
opening; else the next usable sector is taken with the same number, or with the latch set or fewer than three usable the opening is
abandoned (R82). Where a
failed request ends the job, the take comes before the re-decision of a waiting write, the model's choice (log entry 31). -/
def Obligations.FullSectorOpensNextUsable : Prop :=
  (∀ s : State, s.StagingLaw → s.journal.activity = .idle → s.journal.requests ≠ [] →
    ∃ t, exec .journalNextRequest s = .next t.closeStep ∧ s.RequestBegun t) ∧
  ∀ (s : State) (c : Instr) (o : Opening) (who : Requester) (first : JournalRequest) (rest : List JournalRequest), s.StagingLaw →
    s.journal.activity = .opening → s.journal.opening = some o → s.journal.requests = first :: rest → first.requester = who →
    o.purpose = .entry ∧ (∃ e, first = .append who e) ∨ o.purpose = .recording ∧ (∃ p, first = .record p) →
    let after : State := { s with link := { s.link with op := none } }
    let answers (t : State) : Prop := exec c s = .next t.closeStep
    let address (q : Nat) : Nat := o.candidate * 4096 + q * 16
    let goesOn (next : Opening) (op : FlashOp) : Prop :=
      answers (({ after with journal := { s.journal with opening := some next } } : State).journalAsks who op)
    (∀ st e p x, c = .eraseEnd st → s.link.op = some { user := .journal, op := .erase p, stage := .polling x } →
      s.link.erasing = some e → e.user = .journal → e.progress = .running → st.getLsbD 0 = false → o.stage = .erase →
      let erased : State := { after with link := { after.link with erasing := none } }
      (st.getLsbD 3 = false →
        answers (({ erased with
          journal :=
            { s.journal with
              pendingErase := s.journal.pendingErase.setIfInBounds o.candidate false
              opening := some { o with stage := .program 0 } } } : State).journalAsks who
            (.program (address 0) (headImage o.number o.candidate)))) ∧
      (st.getLsbD 3 = true → ∃ t, answers t ∧ (erased.withdrawn o.candidate).CandidatePassed t o who)) ∧
    (∀ st a data since q, c = .programEnd st → o.stage = .program q →
      s.link.op = some { user := .journal, op := .program a data, stage := .polling since } → st.getLsbD 0 = false →
      st.getLsbD 3 = false → s.values.verify = true → goesOn { o with stage := .check q } (.readBack (address q) 16)) ∧
    (s.positionGood c o 0 →
      let images := checkpointImages o.number s.tables.retiredSectors s.tables.mapList s.tables.usableFlags
      goesOn { o with images := images, stage := .program 1 } (.program (address 1) (images.getD 0 []))) ∧
    (∀ q, s.positionGood c o q → 1 ≤ q → q < o.images.length →
      goesOn { o with stage := .program (q + 1) } (.program (address (q + 1)) (o.images.getD q []))) ∧
    (∀ q, s.positionGood c o q → 1 ≤ q → o.images.length ≤ q →
      (∀ e, first = .append who e →
        answers (({ after with journal := { s.rolesMoved o with activity := .appending } } : State).journalAsks who
          (.program (address (o.images.length + 1)) (payloadImage e)))) ∧
      (∀ p, first = .record p →
        ∃ t, answers t ∧
          ({ after with journal := { s.rolesMoved o with requests := rest, activity := .idle } } : State).TurnEnded t)) ∧
    (s.positionBad c o →
      let w := after.withdrawn o.candidate
      answers (({ w with journal := { w.journal with opening := some { o with stage := .voidProgram } } } : State).journalAsks who
        (.program (address 0) (List.replicate 16 0)))) ∧
    (∀ st a data since, c = .programEnd st → o.stage = .voidProgram →
      s.link.op = some { user := .journal, op := .program a data, stage := .polling since } → st.getLsbD 0 = false →
      goesOn { o with stage := .voidCheck } (.readBack (address 0) 16)) ∧
    (∀ bytes a, c = .readBackEnd bytes → o.stage = .voidCheck →
      s.link.op = some { user := .journal, op := .readBack a bytes.length, stage := .reading } →
      (validHead o.candidate bytes = none → ∃ t, answers t ∧ after.CandidatePassed t o who) ∧
      (∀ n, validHead o.candidate bytes = some n →
        ∃ t, answers t ∧
          ({ after with journal := { s.journal with sequence := some o.number } } : State).latched.RequestFailed t))

/-- The erase engine's turn, and the ends of erases. ERASE_ENGINE_REQUEST of an idle engine with work in READY requests the link
(R95). At ERASE_END without FAIL a dirty spare becomes SPARE_CLEAN in its place (R15, R98) and a stale journal sector is no longer
pending (R97), an opening that waits to erase it writing its head at once (R84), and the turn ends, the engine looking for work again
in the same step (R95, R115). With FAIL the spare is marked and a RETIRE requested, or at the cap the latch set (R99); the journal
sector is withdrawn, and the withdrawal to be recorded, or with the latch set or fewer than three usable not (R84, R97), an opening
that waits to erase it taking the next usable sector (R84). The commit engine's erase for allocation leads to a target request, or
with FAIL to the spare's RETIRE, or at the cap to the job's abandonment (R55, R54). Where a
failed request ends the job, the take comes before the re-decision of a waiting write, the model's choice (log entry 31). -/
def Obligations.EraseEngineRequestsAndEnds : Prop :=
  (∀ s : State, s.pool.eraser = .idle → s.ctl.mode = .ready → s.hasEraseWork →
    exec .eraseEngineRequest s = .next
      ({ s with
          pool := { s.pool with eraser := .requesting }
          link := { s.link with requests := { s.link.requests with erase := true } } } : State).closeStep) ∧
  ∀ (s : State) (e : EraseRecord) (x p : Nat) (st : Byte),
    s.link.op = some { user := e.user, op := .erase p, stage := .polling x } →
    s.link.erasing = some e → e.sector = p → e.progress = .running → st.getLsbD 0 = false → s.StagingLaw →
    let ended : State := { s with link := { s.link with op := none, erasing := none } }
    let cleaned := s.tables.setRecord p { s.tables.record p with state := some .spareClean }
    let marked := s.tables.setRecord p { s.tables.record p with retirePending := true }
    let cleared : State :=
      { ended with journal := { s.journal with pendingErase := s.journal.pendingErase.setIfInBounds p false } }
    let room : Prop := s.tables.retiredCount + s.tables.pendingCount < 64
    let withdrawn := ended.withdrawn p
    let recordable : Prop := withdrawn.ctl.degraded = false ∧ 3 ≤ (List.range 8).countP (fun k => withdrawn.tables.usable k)
    let awaiting (o : Opening) : Prop := s.journal.opening = some o ∧ o.purpose = .entry ∧ o.candidate = p ∧ o.stage = .erase ∧
      s.link.requests.commit = some (.journal, .erase p) ∧ s.link.requests.eraseJournal = none ∧
      ∃ l rest, s.journal.requests = .append .commitEngine l :: rest
    let untouched : Prop := ∀ o, s.journal.opening = some o → o.stage ≠ .erase ∨ o.candidate ≠ p
    let answers (t : State) : Prop := exec (.eraseEnd st) s = .next t.closeStep
    (e.user = .eraseEngine → s.pool.eraser = .erasingSpare p →
      (st.getLsbD 3 = false → (s.tables.record p).state = some .spareDirty →
        ∃ t, answers t ∧ ({ ended with tables := cleaned } : State).TurnEnded t) ∧
      (st.getLsbD 3 = true → room →
        ∃ t, answers t ∧
          ({ ended with tables := marked, pool := { s.pool with eraser := .retiring p } } : State).RequestTaken t
            (.append .eraseEngine (.retire p .eraseFail))) ∧
      (st.getLsbD 3 = true → ¬room → ∃ t, answers t ∧ ended.latched.TurnEnded t)) ∧
    (e.user = .eraseEngine → s.pool.eraser = .erasingJournal p → p < 8 →
      (st.getLsbD 3 = false → untouched → ∃ t, answers t ∧ cleared.TurnEnded t) ∧
      (∀ o, st.getLsbD 3 = false → awaiting o → s.journal.previous ≠ some p →
        ∃ t, cleared.TurnEnded t ∧
          answers (({ t with
            journal :=
              { t.journal with
                activity := .opening
                opening := some { purpose := .entry, candidate := p, number := o.number, stage := .program 0, images := [] } } } :
                  State).journalAsks .commitEngine (.program (p * 4096) (headImage o.number p)))) ∧
      (st.getLsbD 3 = true → recordable → untouched →
        ∃ t, answers t ∧
          ({ withdrawn with pool := { s.pool with eraser := .recording p } } : State).RequestTaken t (.record p)) ∧
      (st.getLsbD 3 = true → ¬recordable → untouched → ∃ t, answers t ∧ withdrawn.TurnEnded t) ∧
      (∀ o a c, st.getLsbD 3 = true → recordable → awaiting o → s.journal.active = some a → withdrawn.nextSector a c →
        ∃ t, answers t ∧
          ({ withdrawn with
              pool := { s.pool with eraser := .recording p }
              journal := { s.journal with requests := s.journal.requests ++ [.record p] }
              link :=
                { withdrawn.link with requests := { withdrawn.link.requests with commit := none } } } : State).CandidateTaken t
            .entry o.number c .commitEngine)) ∧
    (∀ j, e.user = .commitEngine → s.engine.job = some j →
      (st.getLsbD 3 = false → (s.tables.record p).state = some .spareDirty →
        ∃ t, answers t ∧ ({ ended with tables := cleaned } : State).TargetAnswered t j) ∧
      (st.getLsbD 3 = true → room →
        ∃ t, answers t ∧
          ({ ended with
              tables := marked
              engine := { s.engine with job := some { j with awaited := some .retireSpare } } } : State).RequestTaken t
            (.append .commitEngine (.retire p .eraseFail))) ∧
      (st.getLsbD 3 = true → ¬room → ∃ t, answers t ∧ ended.latched.JobAbandoned t j))

/-! ## Mount and format -/

/-- SETTLE_END and IDENTIFY_END (R130, R169, R170): BUSY and SUSP clear end the settle and IDENTIFY follows; the identity 0x49, 0x44,
0x23 leads to the scan of the journal heads from J0, and any other is a link fault. -/
def Obligations.SettleThenIdentifyThenScan : Prop :=
  ∀ (s : State) (user : LinkUser) (m : MountRecord) (first : Nat) (st b0 b1 b2 : Byte), s.ctl.mount = some m →
    s.link.stream = none → s.link.power = .awake →
    (s.link.op = some { user := user, op := .settle, stage := .settling first none } → st.getLsbD 0 = false →
      st.getLsbD 2 = false →
      exec (.settleEnd st) s = .next
        ({ s with
            ctl := { s.ctl with mount := some { m with step := .identify } }
            link := { s.link with op := some { user := .mount, op := .identify, stage := .reading } }
            wire := s.wire ++ [.identify] } : State).closeStep) ∧
    (s.link.op = some { user := user, op := .identify, stage := .reading } →
      exec (.identifyEnd 0x49 0x44 0x23) s = .next
        ({ s with
            ctl := { s.ctl with mount := some { m with step := .scan, reading := 0 } }
            link := { s.link with op := some { user := .mount, op := .mountRead 0 16, stage := .reading } }
            wire := s.wire ++ [.read 0 16] } : State).closeStep) ∧
    (s.link.op = some { user := user, op := .identify, stage := .reading } →
      ¬(b0 = 0x49 ∧ b1 = 0x44 ∧ b2 = 0x23) →
      ∃ t, exec (.identifyEnd b0 b1 b2) s = .next t ∧ s.Faulted t)

/-- MOUNT_READ_END. In SCAN (R170): the head is classed, and after J7 all blank heads lead to FORMATTING, no valid head or two with one
number to FORMATTING with FMT at 1 and to FAULT with FMT at 0, and else the newest sector is read. In LOAD (R171): an incomplete
checkpoint leads to the valid head next below; with none left, with an inconsistent checkpoint or at an inconsistency of the replay
(R172, R173, R174) there is no usable state, FMT deciding as before; the newest sector loaded leads to INSTALL with the replayed
tables (R176). In RECORD (R161, R178): the values are taken, the mount record discarded, and the mode chosen by the latch and the
power warning, a drain with no slot held and no job finished; a cycle held for the mount is checked again in the new mode (R138):
refused, answered when it names no byte, a read to request its run, a write to be taken. That the drain is tested in the same act
follows log entry 14; that an operation of the mount is begun in the step that asks for it follows log entry 10. -/
def Obligations.MountEndsInFirstMode : Prop :=
  (∀ (s : State) (m : MountRecord) (addr : Nat) (bytes : List Byte),
    s.link.op = some { user := .mount, op := .mountRead addr bytes.length, stage := .reading } → s.ctl.mount = some m →
    m.format = none → s.ctl.mode = .mounting → s.link.power = .awake → s.link.stream = none →
    let answers (t : State) : Prop := exec (.mountReadEnd bytes) s = .next t.closeStep
    let begun (k : MountRecord) (mode : Mode) (op : FlashOp) (stage : OpStage) (events : List LinkEvent) : State :=
      { s with
        ctl := { s.ctl with mode := mode, mount := some k }
        link := { s.link with op := some { user := .mount, op := op, stage := stage } }
        wire := s.wire ++ events }
    let reads (k : MountRecord) (a len : Nat) : Prop := answers (begun k .mounting (.mountRead a len) .reading [.read a len])
    let formats (k : MountRecord) : Prop :=
      answers (begun { k with workUsable := Vector.replicate _ true, format := some (.eraseJournal 0) } .formatting (.erase 0)
        .writeEnable [.enableWrite, .status])
    let unusable (k : MountRecord) : Prop :=
      (s.ctl.fmt = true → formats k) ∧ (s.ctl.fmt = false → ∃ t, exec (.mountReadEnd bytes) s = .next t ∧ s.Faulted t)
    let starts (k : MountRecord) (step : MountStep) (j : Nat) : Prop :=
      reads { k with step := step, reading := j, image := [] } (j * 4096) 256
    let valid (k : MountRecord) (j n : Nat) : Prop := k.heads[j]? = some (.valid n)
    let below (k : MountRecord) (bound j : Nat) : Prop := ∃ n, valid k j n ∧ n < bound ∧
      ∀ i l, valid k i l → l < bound → l < n ∨ i = j
    (m.step = .scan →
      let h := { m with heads := m.heads.setIfInBounds m.reading (headClassOf m.reading bytes) }
      (m.reading < 7 → reads { h with reading := m.reading + 1 } ((m.reading + 1) * 4096) 16) ∧
      (7 ≤ m.reading →
        ((∀ j < 8, h.heads[j]? = some .blank) → formats h) ∧
        ((∃ j < 8, h.heads[j]? ≠ some .blank) → (∀ j n, ¬valid h j n) → unusable h) ∧
        (∀ i j n, i ≠ j → valid h i n → valid h j n → unusable h) ∧
        ∀ j, (∀ i k n, valid h i n → valid h k n → i = k) → (∀ i n, valid h i n → n < 0xFFFFFFFF) → below h 0xFFFFFFFF j →
          starts { h with newest := some j } .load j)) ∧
    (m.step = .load →
      let w := { m with image := m.image ++ bytes }
      (w.image.length < 4096 → reads w (m.reading * 4096 + w.image.length) 256) ∧
      ∀ n, 4096 ≤ w.image.length → valid m m.reading n →
        (checkpointOf w.image n = none → (∀ j, below m n j → starts w .load j) ∧ ((∀ j k, valid m j k → n ≤ k) → unusable w)) ∧
        ∀ k, checkpointOf w.image n = some k →
          let l :=
            { w with
              step := .replay, loaded := some m.reading, workMap := k.map, workRetired := k.retired
              workUsable := usableOfByte k.usable, loadedAppend := appendPositionOf w.image }
          let consistent : Prop := (∀ p ∈ k.map, 8 ≤ p ∧ p < 512) ∧ k.map.Nodup ∧
            (∀ p ∈ k.retired, (8 ≤ p ∧ p < 512) ∧ p ∉ k.map) ∧ k.retired.Nodup ∧ k.count ≤ 64 ∧ k.usable.testBit m.reading = true
          (¬consistent ∨ replay w.image k = none → unusable l) ∧
          ∀ v, consistent → replay w.image k = some v → m.newest = some m.reading →
            let r := { l with workMap := v.map, workRetired := v.retired }
            (∀ j, below m n j → starts r .install j) ∧
            ((∀ j i, valid m j i → n ≤ i) →
              ∃ t, answers t ∧ t.tables = installedTables r ∧ t.pool.spares = installedSpares r ∧
                t.journal.active = some m.reading ∧ t.journal.previous = none ∧ t.journal.sequence = some n ∧
                t.journal.appendPos = some l.loadedAppend ∧ t.ctl.mode = .mounting ∧
                t.ctl.mount = some { r with step := .record } ∧
                (t.ctl.degraded = true ↔ t.tables.retiredCount = 64 ∨
                  (List.range 8).countP (fun j => t.tables.usable j) < 3 ∨ n = 0xFFFFFFFE)))) ∧
  ∀ (s : State) (m : MountRecord) (addr : Nat) (bytes : List Byte),
    s.link.op = some { user := .mount, op := .mountRead addr 64, stage := .reading } → bytes.length = 64 →
    s.ctl.mount = some m → m.format = none → m.step = .record → s.engine.job = none →
    (∀ i < 16, (s.staging.slot i).state = .free) →
    let ended : State :=
      { s with
        values := decodeRecord bytes
        ctl :=
          { s.ctl with
            mount := none
            mode :=
              if s.ctl.powerWarning then .halted else if s.ctl.degraded then .readOnly else .ready }
        link := { s.link with op := none } }
    let readable : Prop := s.ctl.powerWarning = true → s.ctl.degraded = false
    let writable : Prop := s.ctl.powerWarning = false ∧ s.ctl.degraded = false
    let answers (t : State) : Prop := exec (.mountReadEnd bytes) s = .next t.closeStep
    ((∀ c, s.port.cycle = some c → c.cond ≠ .heldForMount) → answers ended) ∧
    ∀ c, s.port.cycle = some c → c.cond = .heldForMount →
      (¬readable ∨ c.isRead = false ∧ (¬writable ∨ c.bytes ≠ [] ∧ ¬ended.writeAllowed c) →
        answers { ended with port := s.port.refused c s.ctl.wide }) ∧
      (c.bytes = [] → c.isRead = true ∧ readable ∨ writable →
        answers { ended with
          port :=
            { s.port with
              cycle := some { c with cond := .answered }, hwaitn := true
              hadLow := if c.isRead then some 0xFF else s.port.hadLow
              hadHigh := if c.isRead && s.ctl.wide then some 0xFF else s.port.hadHigh } }) ∧
      (∀ b more, c.bytes = b :: more → c.isRead = true → readable → s.link.requests.hostRead = none →
        answers { ended with
          port := { s.port with cycle := some { c with cond := .readWaiting, taken := c.bytes.map fun _ => none } }
          link :=
            { ended.link with
              requests :=
                { s.link.requests with
                  hostRead := some
                    { page := pageOf c.addr, offset := offsetOf b.addr, len := more.length + 1, committed := false
                      discard := false } } } }) ∧
      (c.bytes ≠ [] → c.isRead = false → writable → ended.writeAllowed c →
        ∃ t, answers t ∧
          t = { ended with port := t.port, staging := { s.staging with slots := t.staging.slots }, timer := t.timer } ∧
          t.port = s.port.accepted c ∧
          t.timer.quiet = (if (decodeRecord bytes).quietMs = 0 then none else some s.now) ∧
          t.timer.hold = (if (decodeRecord bytes).holdMs = 0 then none else some s.now) ∧
          (∀ k < 16, k ≠ 0 → t.staging.slot k = s.staging.slot k) ∧
          (t.staging.slot 0).state = .filling ∧ (t.staging.slot 0).page = some (pageOf c.addr) ∧
          (t.staging.slot 0).rank = some 1 ∧
          ∀ o < 256, (t.staging.slot 0).byte o = ((c.bytes.filter fun b => b.addr.toNat % 256 == o).getLast?).map (·.data))

/-- ERASE_END of a format (R180): with FAIL clear below data sector 263 the next data sector is erased; with FAIL set the format
cannot proceed, and the mode becomes FAULT. -/
def Obligations.FormatErasesDataSectorsInTurn : Prop :=
  ∀ (s : State) (m : MountRecord) (e : EraseRecord) (x p : Nat) (st : Byte),
    s.link.op = some { user := .mount, op := .erase p, stage := .polling x } → s.link.erasing = some e → e.user = .mount →
    e.sector = p → e.progress = .running → st.getLsbD 0 = false → s.ctl.mount = some m → m.format = some (.eraseData p) →
    s.link.stream = none → s.link.power = .awake →
    (st.getLsbD 3 = false → p < 263 →
      exec (.eraseEnd st) s = .next
        ({ s with
            ctl := { s.ctl with mount := some { m with format := some (.eraseData (p + 1)) } }
            link :=
              { s.link with
                erasing := none
                op := some { user := .mount, op := .erase (p + 1), stage := .writeEnable } }
            wire := s.wire ++ [.enableWrite, .status] } : State).closeStep) ∧
    (st.getLsbD 3 = true → ∃ t, exec (.eraseEnd st) s = .next t ∧ s.Faulted t)
end

