-- ==== Sys2Proof/Laws/State.lean ====
section
/-! SUPPORT. Laws/State.lean: one lemma per field per update of the state. Each setter of Machine/Ops.lean sets its own field and
leaves the others. -/

namespace Sys2Proof.Machine

/-! ## withPort -/

@[simp] theorem State.withPort_now (s : State) (x : HostPort) : (s.withPort x).now = s.now := rfl
@[simp] theorem State.withPort_port (s : State) (x : HostPort) : (s.withPort x).port = x := rfl
@[simp] theorem State.withPort_staging (s : State) (x : HostPort) : (s.withPort x).staging = s.staging := rfl
@[simp] theorem State.withPort_heldRun (s : State) (x : HostPort) : (s.withPort x).heldRun = s.heldRun := rfl
@[simp] theorem State.withPort_timer (s : State) (x : HostPort) : (s.withPort x).timer = s.timer := rfl
@[simp] theorem State.withPort_engine (s : State) (x : HostPort) : (s.withPort x).engine = s.engine := rfl
@[simp] theorem State.withPort_tables (s : State) (x : HostPort) : (s.withPort x).tables = s.tables := rfl
@[simp] theorem State.withPort_journal (s : State) (x : HostPort) : (s.withPort x).journal = s.journal := rfl
@[simp] theorem State.withPort_pool (s : State) (x : HostPort) : (s.withPort x).pool = s.pool := rfl
@[simp] theorem State.withPort_link (s : State) (x : HostPort) : (s.withPort x).link = s.link := rfl
@[simp] theorem State.withPort_ctl (s : State) (x : HostPort) : (s.withPort x).ctl = s.ctl := rfl
@[simp] theorem State.withPort_values (s : State) (x : HostPort) : (s.withPort x).values = s.values := rfl
@[simp] theorem State.withPort_wire (s : State) (x : HostPort) : (s.withPort x).wire = s.wire := rfl
@[simp] theorem State.withPort_pending (s : State) (x : HostPort) : (s.withPort x).pending = s.pending := rfl

/-! ## withStaging -/

@[simp] theorem State.withStaging_now (s : State) (x : Staging) : (s.withStaging x).now = s.now := rfl
@[simp] theorem State.withStaging_port (s : State) (x : Staging) : (s.withStaging x).port = s.port := rfl
@[simp] theorem State.withStaging_staging (s : State) (x : Staging) : (s.withStaging x).staging = x := rfl
@[simp] theorem State.withStaging_heldRun (s : State) (x : Staging) : (s.withStaging x).heldRun = s.heldRun := rfl
@[simp] theorem State.withStaging_timer (s : State) (x : Staging) : (s.withStaging x).timer = s.timer := rfl
@[simp] theorem State.withStaging_engine (s : State) (x : Staging) : (s.withStaging x).engine = s.engine := rfl
@[simp] theorem State.withStaging_tables (s : State) (x : Staging) : (s.withStaging x).tables = s.tables := rfl
@[simp] theorem State.withStaging_journal (s : State) (x : Staging) : (s.withStaging x).journal = s.journal := rfl
@[simp] theorem State.withStaging_pool (s : State) (x : Staging) : (s.withStaging x).pool = s.pool := rfl
@[simp] theorem State.withStaging_link (s : State) (x : Staging) : (s.withStaging x).link = s.link := rfl
@[simp] theorem State.withStaging_ctl (s : State) (x : Staging) : (s.withStaging x).ctl = s.ctl := rfl
@[simp] theorem State.withStaging_values (s : State) (x : Staging) : (s.withStaging x).values = s.values := rfl
@[simp] theorem State.withStaging_wire (s : State) (x : Staging) : (s.withStaging x).wire = s.wire := rfl
@[simp] theorem State.withStaging_pending (s : State) (x : Staging) : (s.withStaging x).pending = s.pending := rfl

/-! ## withHeldRun -/

@[simp] theorem State.withHeldRun_now (s : State) (x : Option Run) : (s.withHeldRun x).now = s.now := rfl
@[simp] theorem State.withHeldRun_port (s : State) (x : Option Run) : (s.withHeldRun x).port = s.port := rfl
@[simp] theorem State.withHeldRun_staging (s : State) (x : Option Run) : (s.withHeldRun x).staging = s.staging := rfl
@[simp] theorem State.withHeldRun_heldRun (s : State) (x : Option Run) : (s.withHeldRun x).heldRun = x := rfl
@[simp] theorem State.withHeldRun_timer (s : State) (x : Option Run) : (s.withHeldRun x).timer = s.timer := rfl
@[simp] theorem State.withHeldRun_engine (s : State) (x : Option Run) : (s.withHeldRun x).engine = s.engine := rfl
@[simp] theorem State.withHeldRun_tables (s : State) (x : Option Run) : (s.withHeldRun x).tables = s.tables := rfl
@[simp] theorem State.withHeldRun_journal (s : State) (x : Option Run) : (s.withHeldRun x).journal = s.journal := rfl
@[simp] theorem State.withHeldRun_pool (s : State) (x : Option Run) : (s.withHeldRun x).pool = s.pool := rfl
@[simp] theorem State.withHeldRun_link (s : State) (x : Option Run) : (s.withHeldRun x).link = s.link := rfl
@[simp] theorem State.withHeldRun_ctl (s : State) (x : Option Run) : (s.withHeldRun x).ctl = s.ctl := rfl
@[simp] theorem State.withHeldRun_values (s : State) (x : Option Run) : (s.withHeldRun x).values = s.values := rfl
@[simp] theorem State.withHeldRun_wire (s : State) (x : Option Run) : (s.withHeldRun x).wire = s.wire := rfl
@[simp] theorem State.withHeldRun_pending (s : State) (x : Option Run) : (s.withHeldRun x).pending = s.pending := rfl

/-! ## withTimer -/

@[simp] theorem State.withTimer_now (s : State) (x : SealTimer) : (s.withTimer x).now = s.now := rfl
@[simp] theorem State.withTimer_port (s : State) (x : SealTimer) : (s.withTimer x).port = s.port := rfl
@[simp] theorem State.withTimer_staging (s : State) (x : SealTimer) : (s.withTimer x).staging = s.staging := rfl
@[simp] theorem State.withTimer_heldRun (s : State) (x : SealTimer) : (s.withTimer x).heldRun = s.heldRun := rfl
@[simp] theorem State.withTimer_timer (s : State) (x : SealTimer) : (s.withTimer x).timer = x := rfl
@[simp] theorem State.withTimer_engine (s : State) (x : SealTimer) : (s.withTimer x).engine = s.engine := rfl
@[simp] theorem State.withTimer_tables (s : State) (x : SealTimer) : (s.withTimer x).tables = s.tables := rfl
@[simp] theorem State.withTimer_journal (s : State) (x : SealTimer) : (s.withTimer x).journal = s.journal := rfl
@[simp] theorem State.withTimer_pool (s : State) (x : SealTimer) : (s.withTimer x).pool = s.pool := rfl
@[simp] theorem State.withTimer_link (s : State) (x : SealTimer) : (s.withTimer x).link = s.link := rfl
@[simp] theorem State.withTimer_ctl (s : State) (x : SealTimer) : (s.withTimer x).ctl = s.ctl := rfl
@[simp] theorem State.withTimer_values (s : State) (x : SealTimer) : (s.withTimer x).values = s.values := rfl
@[simp] theorem State.withTimer_wire (s : State) (x : SealTimer) : (s.withTimer x).wire = s.wire := rfl
@[simp] theorem State.withTimer_pending (s : State) (x : SealTimer) : (s.withTimer x).pending = s.pending := rfl

/-! ## withEngine -/

@[simp] theorem State.withEngine_now (s : State) (x : CommitEngine) : (s.withEngine x).now = s.now := rfl
@[simp] theorem State.withEngine_port (s : State) (x : CommitEngine) : (s.withEngine x).port = s.port := rfl
@[simp] theorem State.withEngine_staging (s : State) (x : CommitEngine) : (s.withEngine x).staging = s.staging := rfl
@[simp] theorem State.withEngine_heldRun (s : State) (x : CommitEngine) : (s.withEngine x).heldRun = s.heldRun := rfl
@[simp] theorem State.withEngine_timer (s : State) (x : CommitEngine) : (s.withEngine x).timer = s.timer := rfl
@[simp] theorem State.withEngine_engine (s : State) (x : CommitEngine) : (s.withEngine x).engine = x := rfl
@[simp] theorem State.withEngine_tables (s : State) (x : CommitEngine) : (s.withEngine x).tables = s.tables := rfl
@[simp] theorem State.withEngine_journal (s : State) (x : CommitEngine) : (s.withEngine x).journal = s.journal := rfl
@[simp] theorem State.withEngine_pool (s : State) (x : CommitEngine) : (s.withEngine x).pool = s.pool := rfl
@[simp] theorem State.withEngine_link (s : State) (x : CommitEngine) : (s.withEngine x).link = s.link := rfl
@[simp] theorem State.withEngine_ctl (s : State) (x : CommitEngine) : (s.withEngine x).ctl = s.ctl := rfl
@[simp] theorem State.withEngine_values (s : State) (x : CommitEngine) : (s.withEngine x).values = s.values := rfl
@[simp] theorem State.withEngine_wire (s : State) (x : CommitEngine) : (s.withEngine x).wire = s.wire := rfl
@[simp] theorem State.withEngine_pending (s : State) (x : CommitEngine) : (s.withEngine x).pending = s.pending := rfl

/-! ## withTables -/

@[simp] theorem State.withTables_now (s : State) (x : Tables) : (s.withTables x).now = s.now := rfl
@[simp] theorem State.withTables_port (s : State) (x : Tables) : (s.withTables x).port = s.port := rfl
@[simp] theorem State.withTables_staging (s : State) (x : Tables) : (s.withTables x).staging = s.staging := rfl
@[simp] theorem State.withTables_heldRun (s : State) (x : Tables) : (s.withTables x).heldRun = s.heldRun := rfl
@[simp] theorem State.withTables_timer (s : State) (x : Tables) : (s.withTables x).timer = s.timer := rfl
@[simp] theorem State.withTables_engine (s : State) (x : Tables) : (s.withTables x).engine = s.engine := rfl
@[simp] theorem State.withTables_tables (s : State) (x : Tables) : (s.withTables x).tables = x := rfl
@[simp] theorem State.withTables_journal (s : State) (x : Tables) : (s.withTables x).journal = s.journal := rfl
@[simp] theorem State.withTables_pool (s : State) (x : Tables) : (s.withTables x).pool = s.pool := rfl
@[simp] theorem State.withTables_link (s : State) (x : Tables) : (s.withTables x).link = s.link := rfl
@[simp] theorem State.withTables_ctl (s : State) (x : Tables) : (s.withTables x).ctl = s.ctl := rfl
@[simp] theorem State.withTables_values (s : State) (x : Tables) : (s.withTables x).values = s.values := rfl
@[simp] theorem State.withTables_wire (s : State) (x : Tables) : (s.withTables x).wire = s.wire := rfl
@[simp] theorem State.withTables_pending (s : State) (x : Tables) : (s.withTables x).pending = s.pending := rfl

/-! ## withJournal -/

@[simp] theorem State.withJournal_now (s : State) (x : Journal) : (s.withJournal x).now = s.now := rfl
@[simp] theorem State.withJournal_port (s : State) (x : Journal) : (s.withJournal x).port = s.port := rfl
@[simp] theorem State.withJournal_staging (s : State) (x : Journal) : (s.withJournal x).staging = s.staging := rfl
@[simp] theorem State.withJournal_heldRun (s : State) (x : Journal) : (s.withJournal x).heldRun = s.heldRun := rfl
@[simp] theorem State.withJournal_timer (s : State) (x : Journal) : (s.withJournal x).timer = s.timer := rfl
@[simp] theorem State.withJournal_engine (s : State) (x : Journal) : (s.withJournal x).engine = s.engine := rfl
@[simp] theorem State.withJournal_tables (s : State) (x : Journal) : (s.withJournal x).tables = s.tables := rfl
@[simp] theorem State.withJournal_journal (s : State) (x : Journal) : (s.withJournal x).journal = x := rfl
@[simp] theorem State.withJournal_pool (s : State) (x : Journal) : (s.withJournal x).pool = s.pool := rfl
@[simp] theorem State.withJournal_link (s : State) (x : Journal) : (s.withJournal x).link = s.link := rfl
@[simp] theorem State.withJournal_ctl (s : State) (x : Journal) : (s.withJournal x).ctl = s.ctl := rfl
@[simp] theorem State.withJournal_values (s : State) (x : Journal) : (s.withJournal x).values = s.values := rfl
@[simp] theorem State.withJournal_wire (s : State) (x : Journal) : (s.withJournal x).wire = s.wire := rfl
@[simp] theorem State.withJournal_pending (s : State) (x : Journal) : (s.withJournal x).pending = s.pending := rfl

/-! ## withPool -/

@[simp] theorem State.withPool_now (s : State) (x : SparePool) : (s.withPool x).now = s.now := rfl
@[simp] theorem State.withPool_port (s : State) (x : SparePool) : (s.withPool x).port = s.port := rfl
@[simp] theorem State.withPool_staging (s : State) (x : SparePool) : (s.withPool x).staging = s.staging := rfl
@[simp] theorem State.withPool_heldRun (s : State) (x : SparePool) : (s.withPool x).heldRun = s.heldRun := rfl
@[simp] theorem State.withPool_timer (s : State) (x : SparePool) : (s.withPool x).timer = s.timer := rfl
@[simp] theorem State.withPool_engine (s : State) (x : SparePool) : (s.withPool x).engine = s.engine := rfl
@[simp] theorem State.withPool_tables (s : State) (x : SparePool) : (s.withPool x).tables = s.tables := rfl
@[simp] theorem State.withPool_journal (s : State) (x : SparePool) : (s.withPool x).journal = s.journal := rfl
@[simp] theorem State.withPool_pool (s : State) (x : SparePool) : (s.withPool x).pool = x := rfl
@[simp] theorem State.withPool_link (s : State) (x : SparePool) : (s.withPool x).link = s.link := rfl
@[simp] theorem State.withPool_ctl (s : State) (x : SparePool) : (s.withPool x).ctl = s.ctl := rfl
@[simp] theorem State.withPool_values (s : State) (x : SparePool) : (s.withPool x).values = s.values := rfl
@[simp] theorem State.withPool_wire (s : State) (x : SparePool) : (s.withPool x).wire = s.wire := rfl
@[simp] theorem State.withPool_pending (s : State) (x : SparePool) : (s.withPool x).pending = s.pending := rfl

/-! ## withLink -/

@[simp] theorem State.withLink_now (s : State) (x : Link) : (s.withLink x).now = s.now := rfl
@[simp] theorem State.withLink_port (s : State) (x : Link) : (s.withLink x).port = s.port := rfl
@[simp] theorem State.withLink_staging (s : State) (x : Link) : (s.withLink x).staging = s.staging := rfl
@[simp] theorem State.withLink_heldRun (s : State) (x : Link) : (s.withLink x).heldRun = s.heldRun := rfl
@[simp] theorem State.withLink_timer (s : State) (x : Link) : (s.withLink x).timer = s.timer := rfl
@[simp] theorem State.withLink_engine (s : State) (x : Link) : (s.withLink x).engine = s.engine := rfl
@[simp] theorem State.withLink_tables (s : State) (x : Link) : (s.withLink x).tables = s.tables := rfl
@[simp] theorem State.withLink_journal (s : State) (x : Link) : (s.withLink x).journal = s.journal := rfl
@[simp] theorem State.withLink_pool (s : State) (x : Link) : (s.withLink x).pool = s.pool := rfl
@[simp] theorem State.withLink_link (s : State) (x : Link) : (s.withLink x).link = x := rfl
@[simp] theorem State.withLink_ctl (s : State) (x : Link) : (s.withLink x).ctl = s.ctl := rfl
@[simp] theorem State.withLink_values (s : State) (x : Link) : (s.withLink x).values = s.values := rfl
@[simp] theorem State.withLink_wire (s : State) (x : Link) : (s.withLink x).wire = s.wire := rfl
@[simp] theorem State.withLink_pending (s : State) (x : Link) : (s.withLink x).pending = s.pending := rfl

/-! ## withCtl -/

@[simp] theorem State.withCtl_now (s : State) (x : ModeControl) : (s.withCtl x).now = s.now := rfl
@[simp] theorem State.withCtl_port (s : State) (x : ModeControl) : (s.withCtl x).port = s.port := rfl
@[simp] theorem State.withCtl_staging (s : State) (x : ModeControl) : (s.withCtl x).staging = s.staging := rfl
@[simp] theorem State.withCtl_heldRun (s : State) (x : ModeControl) : (s.withCtl x).heldRun = s.heldRun := rfl
@[simp] theorem State.withCtl_timer (s : State) (x : ModeControl) : (s.withCtl x).timer = s.timer := rfl
@[simp] theorem State.withCtl_engine (s : State) (x : ModeControl) : (s.withCtl x).engine = s.engine := rfl
@[simp] theorem State.withCtl_tables (s : State) (x : ModeControl) : (s.withCtl x).tables = s.tables := rfl
@[simp] theorem State.withCtl_journal (s : State) (x : ModeControl) : (s.withCtl x).journal = s.journal := rfl
@[simp] theorem State.withCtl_pool (s : State) (x : ModeControl) : (s.withCtl x).pool = s.pool := rfl
@[simp] theorem State.withCtl_link (s : State) (x : ModeControl) : (s.withCtl x).link = s.link := rfl
@[simp] theorem State.withCtl_ctl (s : State) (x : ModeControl) : (s.withCtl x).ctl = x := rfl
@[simp] theorem State.withCtl_values (s : State) (x : ModeControl) : (s.withCtl x).values = s.values := rfl
@[simp] theorem State.withCtl_wire (s : State) (x : ModeControl) : (s.withCtl x).wire = s.wire := rfl
@[simp] theorem State.withCtl_pending (s : State) (x : ModeControl) : (s.withCtl x).pending = s.pending := rfl

/-! ## withValues -/

@[simp] theorem State.withValues_now (s : State) (x : Values) : (s.withValues x).now = s.now := rfl
@[simp] theorem State.withValues_port (s : State) (x : Values) : (s.withValues x).port = s.port := rfl
@[simp] theorem State.withValues_staging (s : State) (x : Values) : (s.withValues x).staging = s.staging := rfl
@[simp] theorem State.withValues_heldRun (s : State) (x : Values) : (s.withValues x).heldRun = s.heldRun := rfl
@[simp] theorem State.withValues_timer (s : State) (x : Values) : (s.withValues x).timer = s.timer := rfl
@[simp] theorem State.withValues_engine (s : State) (x : Values) : (s.withValues x).engine = s.engine := rfl
@[simp] theorem State.withValues_tables (s : State) (x : Values) : (s.withValues x).tables = s.tables := rfl
@[simp] theorem State.withValues_journal (s : State) (x : Values) : (s.withValues x).journal = s.journal := rfl
@[simp] theorem State.withValues_pool (s : State) (x : Values) : (s.withValues x).pool = s.pool := rfl
@[simp] theorem State.withValues_link (s : State) (x : Values) : (s.withValues x).link = s.link := rfl
@[simp] theorem State.withValues_ctl (s : State) (x : Values) : (s.withValues x).ctl = s.ctl := rfl
@[simp] theorem State.withValues_values (s : State) (x : Values) : (s.withValues x).values = x := rfl
@[simp] theorem State.withValues_wire (s : State) (x : Values) : (s.withValues x).wire = s.wire := rfl
@[simp] theorem State.withValues_pending (s : State) (x : Values) : (s.withValues x).pending = s.pending := rfl

/-! ## withPending -/

@[simp] theorem State.withPending_now (s : State) (x : List Instr) : (s.withPending x).now = s.now := rfl
@[simp] theorem State.withPending_port (s : State) (x : List Instr) : (s.withPending x).port = s.port := rfl
@[simp] theorem State.withPending_staging (s : State) (x : List Instr) : (s.withPending x).staging = s.staging := rfl
@[simp] theorem State.withPending_heldRun (s : State) (x : List Instr) : (s.withPending x).heldRun = s.heldRun := rfl
@[simp] theorem State.withPending_timer (s : State) (x : List Instr) : (s.withPending x).timer = s.timer := rfl
@[simp] theorem State.withPending_engine (s : State) (x : List Instr) : (s.withPending x).engine = s.engine := rfl
@[simp] theorem State.withPending_tables (s : State) (x : List Instr) : (s.withPending x).tables = s.tables := rfl
@[simp] theorem State.withPending_journal (s : State) (x : List Instr) : (s.withPending x).journal = s.journal := rfl
@[simp] theorem State.withPending_pool (s : State) (x : List Instr) : (s.withPending x).pool = s.pool := rfl
@[simp] theorem State.withPending_link (s : State) (x : List Instr) : (s.withPending x).link = s.link := rfl
@[simp] theorem State.withPending_ctl (s : State) (x : List Instr) : (s.withPending x).ctl = s.ctl := rfl
@[simp] theorem State.withPending_values (s : State) (x : List Instr) : (s.withPending x).values = s.values := rfl
@[simp] theorem State.withPending_wire (s : State) (x : List Instr) : (s.withPending x).wire = s.wire := rfl
@[simp] theorem State.withPending_pending (s : State) (x : List Instr) : (s.withPending x).pending = x := rfl

/-! ## drive -/

@[simp] theorem State.drive_now (s : State) (x : List LinkEvent) : (s.drive x).now = s.now := rfl
@[simp] theorem State.drive_port (s : State) (x : List LinkEvent) : (s.drive x).port = s.port := rfl
@[simp] theorem State.drive_staging (s : State) (x : List LinkEvent) : (s.drive x).staging = s.staging := rfl
@[simp] theorem State.drive_heldRun (s : State) (x : List LinkEvent) : (s.drive x).heldRun = s.heldRun := rfl
@[simp] theorem State.drive_timer (s : State) (x : List LinkEvent) : (s.drive x).timer = s.timer := rfl
@[simp] theorem State.drive_engine (s : State) (x : List LinkEvent) : (s.drive x).engine = s.engine := rfl
@[simp] theorem State.drive_tables (s : State) (x : List LinkEvent) : (s.drive x).tables = s.tables := rfl
@[simp] theorem State.drive_journal (s : State) (x : List LinkEvent) : (s.drive x).journal = s.journal := rfl
@[simp] theorem State.drive_pool (s : State) (x : List LinkEvent) : (s.drive x).pool = s.pool := rfl
@[simp] theorem State.drive_link (s : State) (x : List LinkEvent) : (s.drive x).link = s.link := rfl
@[simp] theorem State.drive_ctl (s : State) (x : List LinkEvent) : (s.drive x).ctl = s.ctl := rfl
@[simp] theorem State.drive_values (s : State) (x : List LinkEvent) : (s.drive x).values = s.values := rfl
@[simp] theorem State.drive_wire (s : State) (x : List LinkEvent) : (s.drive x).wire = s.wire ++ x := rfl
@[simp] theorem State.drive_pending (s : State) (x : List LinkEvent) : (s.drive x).pending = s.pending := rfl

/-! ## withJob -/

@[simp] theorem State.withJob_now (s : State) (x : Option Job) : (s.withJob x).now = s.now := rfl
@[simp] theorem State.withJob_port (s : State) (x : Option Job) : (s.withJob x).port = s.port := rfl
@[simp] theorem State.withJob_staging (s : State) (x : Option Job) : (s.withJob x).staging = s.staging := rfl
@[simp] theorem State.withJob_heldRun (s : State) (x : Option Job) : (s.withJob x).heldRun = s.heldRun := rfl
@[simp] theorem State.withJob_timer (s : State) (x : Option Job) : (s.withJob x).timer = s.timer := rfl
@[simp] theorem State.withJob_engine (s : State) (x : Option Job) : (s.withJob x).engine = { s.engine with job := x } := rfl
@[simp] theorem State.withJob_tables (s : State) (x : Option Job) : (s.withJob x).tables = s.tables := rfl
@[simp] theorem State.withJob_journal (s : State) (x : Option Job) : (s.withJob x).journal = s.journal := rfl
@[simp] theorem State.withJob_pool (s : State) (x : Option Job) : (s.withJob x).pool = s.pool := rfl
@[simp] theorem State.withJob_link (s : State) (x : Option Job) : (s.withJob x).link = s.link := rfl
@[simp] theorem State.withJob_ctl (s : State) (x : Option Job) : (s.withJob x).ctl = s.ctl := rfl
@[simp] theorem State.withJob_values (s : State) (x : Option Job) : (s.withJob x).values = s.values := rfl
@[simp] theorem State.withJob_wire (s : State) (x : Option Job) : (s.withJob x).wire = s.wire := rfl
@[simp] theorem State.withJob_pending (s : State) (x : Option Job) : (s.withJob x).pending = s.pending := rfl

/-! ## withEraser -/

@[simp] theorem State.withEraser_now (s : State) (x : EraserActivity) : (s.withEraser x).now = s.now := rfl
@[simp] theorem State.withEraser_port (s : State) (x : EraserActivity) : (s.withEraser x).port = s.port := rfl
@[simp] theorem State.withEraser_staging (s : State) (x : EraserActivity) : (s.withEraser x).staging = s.staging := rfl
@[simp] theorem State.withEraser_heldRun (s : State) (x : EraserActivity) : (s.withEraser x).heldRun = s.heldRun := rfl
@[simp] theorem State.withEraser_timer (s : State) (x : EraserActivity) : (s.withEraser x).timer = s.timer := rfl
@[simp] theorem State.withEraser_engine (s : State) (x : EraserActivity) : (s.withEraser x).engine = s.engine := rfl
@[simp] theorem State.withEraser_tables (s : State) (x : EraserActivity) : (s.withEraser x).tables = s.tables := rfl
@[simp] theorem State.withEraser_journal (s : State) (x : EraserActivity) : (s.withEraser x).journal = s.journal := rfl
@[simp] theorem State.withEraser_pool (s : State) (x : EraserActivity) : (s.withEraser x).pool = { s.pool with eraser := x } := rfl
@[simp] theorem State.withEraser_link (s : State) (x : EraserActivity) : (s.withEraser x).link = s.link := rfl
@[simp] theorem State.withEraser_ctl (s : State) (x : EraserActivity) : (s.withEraser x).ctl = s.ctl := rfl
@[simp] theorem State.withEraser_values (s : State) (x : EraserActivity) : (s.withEraser x).values = s.values := rfl
@[simp] theorem State.withEraser_wire (s : State) (x : EraserActivity) : (s.withEraser x).wire = s.wire := rfl
@[simp] theorem State.withEraser_pending (s : State) (x : EraserActivity) : (s.withEraser x).pending = s.pending := rfl

/-! ## withMount -/

@[simp] theorem State.withMount_now (s : State) (x : Option MountRecord) : (s.withMount x).now = s.now := rfl
@[simp] theorem State.withMount_port (s : State) (x : Option MountRecord) : (s.withMount x).port = s.port := rfl
@[simp] theorem State.withMount_staging (s : State) (x : Option MountRecord) : (s.withMount x).staging = s.staging := rfl
@[simp] theorem State.withMount_heldRun (s : State) (x : Option MountRecord) : (s.withMount x).heldRun = s.heldRun := rfl
@[simp] theorem State.withMount_timer (s : State) (x : Option MountRecord) : (s.withMount x).timer = s.timer := rfl
@[simp] theorem State.withMount_engine (s : State) (x : Option MountRecord) : (s.withMount x).engine = s.engine := rfl
@[simp] theorem State.withMount_tables (s : State) (x : Option MountRecord) : (s.withMount x).tables = s.tables := rfl
@[simp] theorem State.withMount_journal (s : State) (x : Option MountRecord) : (s.withMount x).journal = s.journal := rfl
@[simp] theorem State.withMount_pool (s : State) (x : Option MountRecord) : (s.withMount x).pool = s.pool := rfl
@[simp] theorem State.withMount_link (s : State) (x : Option MountRecord) : (s.withMount x).link = s.link := rfl
@[simp] theorem State.withMount_ctl (s : State) (x : Option MountRecord) : (s.withMount x).ctl = { s.ctl with mount := x } := rfl
@[simp] theorem State.withMount_values (s : State) (x : Option MountRecord) : (s.withMount x).values = s.values := rfl
@[simp] theorem State.withMount_wire (s : State) (x : Option MountRecord) : (s.withMount x).wire = s.wire := rfl
@[simp] theorem State.withMount_pending (s : State) (x : Option MountRecord) : (s.withMount x).pending = s.pending := rfl

/-! ## withOp -/

@[simp] theorem State.withOp_now (s : State) (x : Option LinkOp) : (s.withOp x).now = s.now := rfl
@[simp] theorem State.withOp_port (s : State) (x : Option LinkOp) : (s.withOp x).port = s.port := rfl
@[simp] theorem State.withOp_staging (s : State) (x : Option LinkOp) : (s.withOp x).staging = s.staging := rfl
@[simp] theorem State.withOp_heldRun (s : State) (x : Option LinkOp) : (s.withOp x).heldRun = s.heldRun := rfl
@[simp] theorem State.withOp_timer (s : State) (x : Option LinkOp) : (s.withOp x).timer = s.timer := rfl
@[simp] theorem State.withOp_engine (s : State) (x : Option LinkOp) : (s.withOp x).engine = s.engine := rfl
@[simp] theorem State.withOp_tables (s : State) (x : Option LinkOp) : (s.withOp x).tables = s.tables := rfl
@[simp] theorem State.withOp_journal (s : State) (x : Option LinkOp) : (s.withOp x).journal = s.journal := rfl
@[simp] theorem State.withOp_pool (s : State) (x : Option LinkOp) : (s.withOp x).pool = s.pool := rfl
@[simp] theorem State.withOp_link (s : State) (x : Option LinkOp) : (s.withOp x).link = { s.link with op := x } := rfl
@[simp] theorem State.withOp_ctl (s : State) (x : Option LinkOp) : (s.withOp x).ctl = s.ctl := rfl
@[simp] theorem State.withOp_values (s : State) (x : Option LinkOp) : (s.withOp x).values = s.values := rfl
@[simp] theorem State.withOp_wire (s : State) (x : Option LinkOp) : (s.withOp x).wire = s.wire := rfl
@[simp] theorem State.withOp_pending (s : State) (x : Option LinkOp) : (s.withOp x).pending = s.pending := rfl

/-! ## withErasing -/

@[simp] theorem State.withErasing_now (s : State) (x : Option EraseRecord) : (s.withErasing x).now = s.now := rfl
@[simp] theorem State.withErasing_port (s : State) (x : Option EraseRecord) : (s.withErasing x).port = s.port := rfl
@[simp] theorem State.withErasing_staging (s : State) (x : Option EraseRecord) : (s.withErasing x).staging = s.staging := rfl
@[simp] theorem State.withErasing_heldRun (s : State) (x : Option EraseRecord) : (s.withErasing x).heldRun = s.heldRun := rfl
@[simp] theorem State.withErasing_timer (s : State) (x : Option EraseRecord) : (s.withErasing x).timer = s.timer := rfl
@[simp] theorem State.withErasing_engine (s : State) (x : Option EraseRecord) : (s.withErasing x).engine = s.engine := rfl
@[simp] theorem State.withErasing_tables (s : State) (x : Option EraseRecord) : (s.withErasing x).tables = s.tables := rfl
@[simp] theorem State.withErasing_journal (s : State) (x : Option EraseRecord) : (s.withErasing x).journal = s.journal := rfl
@[simp] theorem State.withErasing_pool (s : State) (x : Option EraseRecord) : (s.withErasing x).pool = s.pool := rfl
@[simp] theorem State.withErasing_link (s : State) (x : Option EraseRecord) : (s.withErasing x).link = { s.link with erasing := x } := rfl
@[simp] theorem State.withErasing_ctl (s : State) (x : Option EraseRecord) : (s.withErasing x).ctl = s.ctl := rfl
@[simp] theorem State.withErasing_values (s : State) (x : Option EraseRecord) : (s.withErasing x).values = s.values := rfl
@[simp] theorem State.withErasing_wire (s : State) (x : Option EraseRecord) : (s.withErasing x).wire = s.wire := rfl
@[simp] theorem State.withErasing_pending (s : State) (x : Option EraseRecord) : (s.withErasing x).pending = s.pending := rfl

/-! ## withRequests -/

@[simp] theorem State.withRequests_now (s : State) (x : Requests) : (s.withRequests x).now = s.now := rfl
@[simp] theorem State.withRequests_port (s : State) (x : Requests) : (s.withRequests x).port = s.port := rfl
@[simp] theorem State.withRequests_staging (s : State) (x : Requests) : (s.withRequests x).staging = s.staging := rfl
@[simp] theorem State.withRequests_heldRun (s : State) (x : Requests) : (s.withRequests x).heldRun = s.heldRun := rfl
@[simp] theorem State.withRequests_timer (s : State) (x : Requests) : (s.withRequests x).timer = s.timer := rfl
@[simp] theorem State.withRequests_engine (s : State) (x : Requests) : (s.withRequests x).engine = s.engine := rfl
@[simp] theorem State.withRequests_tables (s : State) (x : Requests) : (s.withRequests x).tables = s.tables := rfl
@[simp] theorem State.withRequests_journal (s : State) (x : Requests) : (s.withRequests x).journal = s.journal := rfl
@[simp] theorem State.withRequests_pool (s : State) (x : Requests) : (s.withRequests x).pool = s.pool := rfl
@[simp] theorem State.withRequests_link (s : State) (x : Requests) : (s.withRequests x).link = { s.link with requests := x } := rfl
@[simp] theorem State.withRequests_ctl (s : State) (x : Requests) : (s.withRequests x).ctl = s.ctl := rfl
@[simp] theorem State.withRequests_values (s : State) (x : Requests) : (s.withRequests x).values = s.values := rfl
@[simp] theorem State.withRequests_wire (s : State) (x : Requests) : (s.withRequests x).wire = s.wire := rfl
@[simp] theorem State.withRequests_pending (s : State) (x : Requests) : (s.withRequests x).pending = s.pending := rfl

/-! ## withPower -/

@[simp] theorem State.withPower_now (s : State) (x : PowerState) : (s.withPower x).now = s.now := rfl
@[simp] theorem State.withPower_port (s : State) (x : PowerState) : (s.withPower x).port = s.port := rfl
@[simp] theorem State.withPower_staging (s : State) (x : PowerState) : (s.withPower x).staging = s.staging := rfl
@[simp] theorem State.withPower_heldRun (s : State) (x : PowerState) : (s.withPower x).heldRun = s.heldRun := rfl
@[simp] theorem State.withPower_timer (s : State) (x : PowerState) : (s.withPower x).timer = s.timer := rfl
@[simp] theorem State.withPower_engine (s : State) (x : PowerState) : (s.withPower x).engine = s.engine := rfl
@[simp] theorem State.withPower_tables (s : State) (x : PowerState) : (s.withPower x).tables = s.tables := rfl
@[simp] theorem State.withPower_journal (s : State) (x : PowerState) : (s.withPower x).journal = s.journal := rfl
@[simp] theorem State.withPower_pool (s : State) (x : PowerState) : (s.withPower x).pool = s.pool := rfl
@[simp] theorem State.withPower_link (s : State) (x : PowerState) : (s.withPower x).link = { s.link with power := x } := rfl
@[simp] theorem State.withPower_ctl (s : State) (x : PowerState) : (s.withPower x).ctl = s.ctl := rfl
@[simp] theorem State.withPower_values (s : State) (x : PowerState) : (s.withPower x).values = s.values := rfl
@[simp] theorem State.withPower_wire (s : State) (x : PowerState) : (s.withPower x).wire = s.wire := rfl
@[simp] theorem State.withPower_pending (s : State) (x : PowerState) : (s.withPower x).pending = s.pending := rfl

/-! ## withWorkPage -/

@[simp] theorem State.withWorkPage_now (s : State) (x : List Byte) : (s.withWorkPage x).now = s.now := rfl
@[simp] theorem State.withWorkPage_port (s : State) (x : List Byte) : (s.withWorkPage x).port = s.port := rfl
@[simp] theorem State.withWorkPage_staging (s : State) (x : List Byte) : (s.withWorkPage x).staging = s.staging := rfl
@[simp] theorem State.withWorkPage_heldRun (s : State) (x : List Byte) : (s.withWorkPage x).heldRun = s.heldRun := rfl
@[simp] theorem State.withWorkPage_timer (s : State) (x : List Byte) : (s.withWorkPage x).timer = s.timer := rfl
@[simp] theorem State.withWorkPage_engine (s : State) (x : List Byte) : (s.withWorkPage x).engine = { s.engine with workPage := x } := rfl
@[simp] theorem State.withWorkPage_tables (s : State) (x : List Byte) : (s.withWorkPage x).tables = s.tables := rfl
@[simp] theorem State.withWorkPage_journal (s : State) (x : List Byte) : (s.withWorkPage x).journal = s.journal := rfl
@[simp] theorem State.withWorkPage_pool (s : State) (x : List Byte) : (s.withWorkPage x).pool = s.pool := rfl
@[simp] theorem State.withWorkPage_link (s : State) (x : List Byte) : (s.withWorkPage x).link = s.link := rfl
@[simp] theorem State.withWorkPage_ctl (s : State) (x : List Byte) : (s.withWorkPage x).ctl = s.ctl := rfl
@[simp] theorem State.withWorkPage_values (s : State) (x : List Byte) : (s.withWorkPage x).values = s.values := rfl
@[simp] theorem State.withWorkPage_wire (s : State) (x : List Byte) : (s.withWorkPage x).wire = s.wire := rfl
@[simp] theorem State.withWorkPage_pending (s : State) (x : List Byte) : (s.withWorkPage x).pending = s.pending := rfl

end Sys2Proof.Machine
end

