-- ==== Sys2Proof/Laws/Frames.lean ====
section
/-! SUPPORT. Laws/Frames.lean: what each operation of the blocks leaves alone, one lemma per field. A field that an operation has
no lemma for is one it may change. -/

namespace Sys2Proof.Machine

section

/- A thousand short proofs, one after another: a thread for each is more than there is room for. -/
set_option Elab.async false

/-! ## startCounts -/

@[simp] theorem State.startCounts_now (s : State) : s.startCounts.now = s.now := by
  unfold State.startCounts
  simp
@[simp] theorem State.startCounts_port (s : State) : s.startCounts.port = s.port := by
  unfold State.startCounts
  simp
@[simp] theorem State.startCounts_staging (s : State) : s.startCounts.staging = s.staging := by
  unfold State.startCounts
  simp
@[simp] theorem State.startCounts_heldRun (s : State) : s.startCounts.heldRun = s.heldRun := by
  unfold State.startCounts
  simp
@[simp] theorem State.startCounts_engine (s : State) : s.startCounts.engine = s.engine := by
  unfold State.startCounts
  simp
@[simp] theorem State.startCounts_tables (s : State) : s.startCounts.tables = s.tables := by
  unfold State.startCounts
  simp
@[simp] theorem State.startCounts_journal (s : State) : s.startCounts.journal = s.journal := by
  unfold State.startCounts
  simp
@[simp] theorem State.startCounts_pool (s : State) : s.startCounts.pool = s.pool := by
  unfold State.startCounts
  simp
@[simp] theorem State.startCounts_link (s : State) : s.startCounts.link = s.link := by
  unfold State.startCounts
  simp
@[simp] theorem State.startCounts_ctl (s : State) : s.startCounts.ctl = s.ctl := by
  unfold State.startCounts
  simp
@[simp] theorem State.startCounts_values (s : State) : s.startCounts.values = s.values := by
  unfold State.startCounts
  simp
@[simp] theorem State.startCounts_wire (s : State) : s.startCounts.wire = s.wire := by
  unfold State.startCounts
  simp
@[simp] theorem State.startCounts_pending (s : State) : s.startCounts.pending = s.pending := by
  unfold State.startCounts
  simp

/-! ## restartQuiet -/

@[simp] theorem State.restartQuiet_now (s : State) : s.restartQuiet.now = s.now := by
  unfold State.restartQuiet
  simp
@[simp] theorem State.restartQuiet_port (s : State) : s.restartQuiet.port = s.port := by
  unfold State.restartQuiet
  simp
@[simp] theorem State.restartQuiet_staging (s : State) : s.restartQuiet.staging = s.staging := by
  unfold State.restartQuiet
  simp
@[simp] theorem State.restartQuiet_heldRun (s : State) : s.restartQuiet.heldRun = s.heldRun := by
  unfold State.restartQuiet
  simp
@[simp] theorem State.restartQuiet_engine (s : State) : s.restartQuiet.engine = s.engine := by
  unfold State.restartQuiet
  simp
@[simp] theorem State.restartQuiet_tables (s : State) : s.restartQuiet.tables = s.tables := by
  unfold State.restartQuiet
  simp
@[simp] theorem State.restartQuiet_journal (s : State) : s.restartQuiet.journal = s.journal := by
  unfold State.restartQuiet
  simp
@[simp] theorem State.restartQuiet_pool (s : State) : s.restartQuiet.pool = s.pool := by
  unfold State.restartQuiet
  simp
@[simp] theorem State.restartQuiet_link (s : State) : s.restartQuiet.link = s.link := by
  unfold State.restartQuiet
  simp
@[simp] theorem State.restartQuiet_ctl (s : State) : s.restartQuiet.ctl = s.ctl := by
  unfold State.restartQuiet
  simp
@[simp] theorem State.restartQuiet_values (s : State) : s.restartQuiet.values = s.values := by
  unfold State.restartQuiet
  simp
@[simp] theorem State.restartQuiet_wire (s : State) : s.restartQuiet.wire = s.wire := by
  unfold State.restartQuiet
  simp
@[simp] theorem State.restartQuiet_pending (s : State) : s.restartQuiet.pending = s.pending := by
  unfold State.restartQuiet
  simp

/-! ## withStagingReport -/

@[simp] theorem State.withStagingReport_now (s : State) (g : Staging) : (s.withStagingReport g).now = s.now := by
  unfold State.withStagingReport
  repeat' split
  all_goals simp
@[simp] theorem State.withStagingReport_port (s : State) (g : Staging) : (s.withStagingReport g).port = s.port := by
  unfold State.withStagingReport
  repeat' split
  all_goals simp
@[simp] theorem State.withStagingReport_heldRun (s : State) (g : Staging) :
    (s.withStagingReport g).heldRun = s.heldRun := by
  unfold State.withStagingReport
  repeat' split
  all_goals simp
@[simp] theorem State.withStagingReport_engine (s : State) (g : Staging) :
    (s.withStagingReport g).engine = s.engine := by
  unfold State.withStagingReport
  repeat' split
  all_goals simp
@[simp] theorem State.withStagingReport_tables (s : State) (g : Staging) :
    (s.withStagingReport g).tables = s.tables := by
  unfold State.withStagingReport
  repeat' split
  all_goals simp
@[simp] theorem State.withStagingReport_journal (s : State) (g : Staging) :
    (s.withStagingReport g).journal = s.journal := by
  unfold State.withStagingReport
  repeat' split
  all_goals simp
@[simp] theorem State.withStagingReport_pool (s : State) (g : Staging) : (s.withStagingReport g).pool = s.pool := by
  unfold State.withStagingReport
  repeat' split
  all_goals simp
@[simp] theorem State.withStagingReport_link (s : State) (g : Staging) : (s.withStagingReport g).link = s.link := by
  unfold State.withStagingReport
  repeat' split
  all_goals simp
@[simp] theorem State.withStagingReport_ctl (s : State) (g : Staging) : (s.withStagingReport g).ctl = s.ctl := by
  unfold State.withStagingReport
  repeat' split
  all_goals simp
@[simp] theorem State.withStagingReport_values (s : State) (g : Staging) :
    (s.withStagingReport g).values = s.values := by
  unfold State.withStagingReport
  repeat' split
  all_goals simp
@[simp] theorem State.withStagingReport_wire (s : State) (g : Staging) : (s.withStagingReport g).wire = s.wire := by
  unfold State.withStagingReport
  repeat' split
  all_goals simp
@[simp] theorem State.withStagingReport_pending (s : State) (g : Staging) :
    (s.withStagingReport g).pending = s.pending := by
  unfold State.withStagingReport
  repeat' split
  all_goals simp

/-! ## answer -/

@[simp] theorem State.answer_now (s : State) (values : List Byte) : (s.answer values).now = s.now := by
  unfold State.answer
  simp
@[simp] theorem State.answer_staging (s : State) (values : List Byte) : (s.answer values).staging = s.staging := by
  unfold State.answer
  simp
@[simp] theorem State.answer_heldRun (s : State) (values : List Byte) : (s.answer values).heldRun = s.heldRun := by
  unfold State.answer
  simp
@[simp] theorem State.answer_timer (s : State) (values : List Byte) : (s.answer values).timer = s.timer := by
  unfold State.answer
  simp
@[simp] theorem State.answer_engine (s : State) (values : List Byte) : (s.answer values).engine = s.engine := by
  unfold State.answer
  simp
@[simp] theorem State.answer_tables (s : State) (values : List Byte) : (s.answer values).tables = s.tables := by
  unfold State.answer
  simp
@[simp] theorem State.answer_journal (s : State) (values : List Byte) : (s.answer values).journal = s.journal := by
  unfold State.answer
  simp
@[simp] theorem State.answer_pool (s : State) (values : List Byte) : (s.answer values).pool = s.pool := by
  unfold State.answer
  simp
@[simp] theorem State.answer_link (s : State) (values : List Byte) : (s.answer values).link = s.link := by
  unfold State.answer
  simp
@[simp] theorem State.answer_ctl (s : State) (values : List Byte) : (s.answer values).ctl = s.ctl := by
  unfold State.answer
  simp
@[simp] theorem State.answer_values (s : State) (values : List Byte) : (s.answer values).values = s.values := by
  unfold State.answer
  simp
@[simp] theorem State.answer_wire (s : State) (values : List Byte) : (s.answer values).wire = s.wire := by
  unfold State.answer
  simp
@[simp] theorem State.answer_pending (s : State) (values : List Byte) : (s.answer values).pending = s.pending := by
  unfold State.answer
  simp

/-! ## errorTerminate -/

@[simp] theorem State.errorTerminate_now (s : State) : s.errorTerminate.now = s.now := by
  unfold State.errorTerminate
  simp
@[simp] theorem State.errorTerminate_staging (s : State) : s.errorTerminate.staging = s.staging := by
  unfold State.errorTerminate
  simp
@[simp] theorem State.errorTerminate_heldRun (s : State) : s.errorTerminate.heldRun = s.heldRun := by
  unfold State.errorTerminate
  simp
@[simp] theorem State.errorTerminate_timer (s : State) : s.errorTerminate.timer = s.timer := by
  unfold State.errorTerminate
  simp
@[simp] theorem State.errorTerminate_engine (s : State) : s.errorTerminate.engine = s.engine := by
  unfold State.errorTerminate
  simp
@[simp] theorem State.errorTerminate_tables (s : State) : s.errorTerminate.tables = s.tables := by
  unfold State.errorTerminate
  simp
@[simp] theorem State.errorTerminate_journal (s : State) : s.errorTerminate.journal = s.journal := by
  unfold State.errorTerminate
  simp
@[simp] theorem State.errorTerminate_pool (s : State) : s.errorTerminate.pool = s.pool := by
  unfold State.errorTerminate
  simp
@[simp] theorem State.errorTerminate_link (s : State) : s.errorTerminate.link = s.link := by
  unfold State.errorTerminate
  simp
@[simp] theorem State.errorTerminate_ctl (s : State) : s.errorTerminate.ctl = s.ctl := by
  unfold State.errorTerminate
  simp
@[simp] theorem State.errorTerminate_values (s : State) : s.errorTerminate.values = s.values := by
  unfold State.errorTerminate
  simp
@[simp] theorem State.errorTerminate_wire (s : State) : s.errorTerminate.wire = s.wire := by
  unfold State.errorTerminate
  simp
@[simp] theorem State.errorTerminate_pending (s : State) : s.errorTerminate.pending = s.pending := by
  unfold State.errorTerminate
  simp

/-! ## closeStream -/

@[simp] theorem State.closeStream_now (s : State) : s.closeStream.now = s.now := by
  unfold State.closeStream
  repeat' split
  all_goals simp
@[simp] theorem State.closeStream_port (s : State) : s.closeStream.port = s.port := by
  unfold State.closeStream
  repeat' split
  all_goals simp
@[simp] theorem State.closeStream_staging (s : State) : s.closeStream.staging = s.staging := by
  unfold State.closeStream
  repeat' split
  all_goals simp
@[simp] theorem State.closeStream_heldRun (s : State) : s.closeStream.heldRun = s.heldRun := by
  unfold State.closeStream
  repeat' split
  all_goals simp
@[simp] theorem State.closeStream_timer (s : State) : s.closeStream.timer = s.timer := by
  unfold State.closeStream
  repeat' split
  all_goals simp
@[simp] theorem State.closeStream_engine (s : State) : s.closeStream.engine = s.engine := by
  unfold State.closeStream
  repeat' split
  all_goals simp
@[simp] theorem State.closeStream_tables (s : State) : s.closeStream.tables = s.tables := by
  unfold State.closeStream
  repeat' split
  all_goals simp
@[simp] theorem State.closeStream_journal (s : State) : s.closeStream.journal = s.journal := by
  unfold State.closeStream
  repeat' split
  all_goals simp
@[simp] theorem State.closeStream_pool (s : State) : s.closeStream.pool = s.pool := by
  unfold State.closeStream
  repeat' split
  all_goals simp
@[simp] theorem State.closeStream_ctl (s : State) : s.closeStream.ctl = s.ctl := by
  unfold State.closeStream
  repeat' split
  all_goals simp
@[simp] theorem State.closeStream_values (s : State) : s.closeStream.values = s.values := by
  unfold State.closeStream
  repeat' split
  all_goals simp
@[simp] theorem State.closeStream_pending (s : State) : s.closeStream.pending = s.pending := by
  unfold State.closeStream
  repeat' split
  all_goals simp

/-! ## refreshDoze -/

@[simp] theorem State.refreshDoze_now (s : State) : s.refreshDoze.now = s.now := by
  unfold State.refreshDoze
  repeat' split
  all_goals simp
@[simp] theorem State.refreshDoze_port (s : State) : s.refreshDoze.port = s.port := by
  unfold State.refreshDoze
  repeat' split
  all_goals simp
@[simp] theorem State.refreshDoze_staging (s : State) : s.refreshDoze.staging = s.staging := by
  unfold State.refreshDoze
  repeat' split
  all_goals simp
@[simp] theorem State.refreshDoze_heldRun (s : State) : s.refreshDoze.heldRun = s.heldRun := by
  unfold State.refreshDoze
  repeat' split
  all_goals simp
@[simp] theorem State.refreshDoze_timer (s : State) : s.refreshDoze.timer = s.timer := by
  unfold State.refreshDoze
  repeat' split
  all_goals simp
@[simp] theorem State.refreshDoze_engine (s : State) : s.refreshDoze.engine = s.engine := by
  unfold State.refreshDoze
  repeat' split
  all_goals simp
@[simp] theorem State.refreshDoze_tables (s : State) : s.refreshDoze.tables = s.tables := by
  unfold State.refreshDoze
  repeat' split
  all_goals simp
@[simp] theorem State.refreshDoze_journal (s : State) : s.refreshDoze.journal = s.journal := by
  unfold State.refreshDoze
  repeat' split
  all_goals simp
@[simp] theorem State.refreshDoze_pool (s : State) : s.refreshDoze.pool = s.pool := by
  unfold State.refreshDoze
  repeat' split
  all_goals simp
@[simp] theorem State.refreshDoze_ctl (s : State) : s.refreshDoze.ctl = s.ctl := by
  unfold State.refreshDoze
  repeat' split
  all_goals simp
@[simp] theorem State.refreshDoze_values (s : State) : s.refreshDoze.values = s.values := by
  unfold State.refreshDoze
  repeat' split
  all_goals simp
@[simp] theorem State.refreshDoze_wire (s : State) : s.refreshDoze.wire = s.wire := by
  unfold State.refreshDoze
  repeat' split
  all_goals simp
@[simp] theorem State.refreshDoze_pending (s : State) : s.refreshDoze.pending = s.pending := by
  unfold State.refreshDoze
  repeat' split
  all_goals simp

/-! ## arbitrate -/

@[simp] theorem State.arbitrate_now (s : State) : s.arbitrate.now = s.now := by
  unfold State.arbitrate
  dsimp only
  repeat' split
  all_goals simp
@[simp] theorem State.arbitrate_port (s : State) : s.arbitrate.port = s.port := by
  unfold State.arbitrate
  dsimp only
  repeat' split
  all_goals simp
@[simp] theorem State.arbitrate_staging (s : State) : s.arbitrate.staging = s.staging := by
  unfold State.arbitrate
  dsimp only
  repeat' split
  all_goals simp
@[simp] theorem State.arbitrate_heldRun (s : State) : s.arbitrate.heldRun = s.heldRun := by
  unfold State.arbitrate
  dsimp only
  repeat' split
  all_goals simp
@[simp] theorem State.arbitrate_timer (s : State) : s.arbitrate.timer = s.timer := by
  unfold State.arbitrate
  dsimp only
  repeat' split
  all_goals simp
@[simp] theorem State.arbitrate_engine (s : State) : s.arbitrate.engine = s.engine := by
  unfold State.arbitrate
  dsimp only
  repeat' split
  all_goals simp
@[simp] theorem State.arbitrate_tables (s : State) : s.arbitrate.tables = s.tables := by
  unfold State.arbitrate
  dsimp only
  repeat' split
  all_goals simp
@[simp] theorem State.arbitrate_journal (s : State) : s.arbitrate.journal = s.journal := by
  unfold State.arbitrate
  dsimp only
  repeat' split
  all_goals simp
@[simp] theorem State.arbitrate_pool (s : State) : s.arbitrate.pool = s.pool := by
  unfold State.arbitrate
  dsimp only
  repeat' split
  all_goals simp
@[simp] theorem State.arbitrate_ctl (s : State) : s.arbitrate.ctl = s.ctl := by
  unfold State.arbitrate
  dsimp only
  repeat' split
  all_goals simp
@[simp] theorem State.arbitrate_values (s : State) : s.arbitrate.values = s.values := by
  unfold State.arbitrate
  dsimp only
  repeat' split
  all_goals simp
@[simp] theorem State.arbitrate_wire (s : State) : s.arbitrate.wire = s.wire := by
  unfold State.arbitrate
  dsimp only
  repeat' split
  all_goals simp
@[simp] theorem State.arbitrate_pending (s : State) : s.arbitrate.pending = s.pending := by
  unfold State.arbitrate
  dsimp only
  repeat' split
  all_goals simp

/-! ## closeStep -/

@[simp] theorem State.closeStep_now (s : State) : s.closeStep.now = s.now := by
  unfold State.closeStep
  simp
@[simp] theorem State.closeStep_port (s : State) : s.closeStep.port = s.port := by
  unfold State.closeStep
  simp
@[simp] theorem State.closeStep_staging (s : State) : s.closeStep.staging = s.staging := by
  unfold State.closeStep
  simp
@[simp] theorem State.closeStep_heldRun (s : State) : s.closeStep.heldRun = s.heldRun := by
  unfold State.closeStep
  simp
@[simp] theorem State.closeStep_timer (s : State) : s.closeStep.timer = s.timer := by
  unfold State.closeStep
  simp
@[simp] theorem State.closeStep_engine (s : State) : s.closeStep.engine = s.engine := by
  unfold State.closeStep
  simp
@[simp] theorem State.closeStep_tables (s : State) : s.closeStep.tables = s.tables := by
  unfold State.closeStep
  simp
@[simp] theorem State.closeStep_journal (s : State) : s.closeStep.journal = s.journal := by
  unfold State.closeStep
  simp
@[simp] theorem State.closeStep_pool (s : State) : s.closeStep.pool = s.pool := by
  unfold State.closeStep
  simp
@[simp] theorem State.closeStep_ctl (s : State) : s.closeStep.ctl = s.ctl := by
  unfold State.closeStep
  simp
@[simp] theorem State.closeStep_values (s : State) : s.closeStep.values = s.values := by
  unfold State.closeStep
  simp
@[simp] theorem State.closeStep_wire (s : State) : s.closeStep.wire = s.wire := by
  unfold State.closeStep
  simp
@[simp] theorem State.closeStep_pending (s : State) : s.closeStep.pending = s.pending := by
  unfold State.closeStep
  simp

/-! ## requestCommit -/

@[simp] theorem State.requestCommit_now (s : State) (user : LinkUser) (o : FlashOp) :
    (s.requestCommit user o).now = s.now := by
  unfold State.requestCommit
  simp
@[simp] theorem State.requestCommit_port (s : State) (user : LinkUser) (o : FlashOp) :
    (s.requestCommit user o).port = s.port := by
  unfold State.requestCommit
  simp
@[simp] theorem State.requestCommit_staging (s : State) (user : LinkUser) (o : FlashOp) :
    (s.requestCommit user o).staging = s.staging := by
  unfold State.requestCommit
  simp
@[simp] theorem State.requestCommit_heldRun (s : State) (user : LinkUser) (o : FlashOp) :
    (s.requestCommit user o).heldRun = s.heldRun := by
  unfold State.requestCommit
  simp
@[simp] theorem State.requestCommit_timer (s : State) (user : LinkUser) (o : FlashOp) :
    (s.requestCommit user o).timer = s.timer := by
  unfold State.requestCommit
  simp
@[simp] theorem State.requestCommit_engine (s : State) (user : LinkUser) (o : FlashOp) :
    (s.requestCommit user o).engine = s.engine := by
  unfold State.requestCommit
  simp
@[simp] theorem State.requestCommit_tables (s : State) (user : LinkUser) (o : FlashOp) :
    (s.requestCommit user o).tables = s.tables := by
  unfold State.requestCommit
  simp
@[simp] theorem State.requestCommit_journal (s : State) (user : LinkUser) (o : FlashOp) :
    (s.requestCommit user o).journal = s.journal := by
  unfold State.requestCommit
  simp
@[simp] theorem State.requestCommit_pool (s : State) (user : LinkUser) (o : FlashOp) :
    (s.requestCommit user o).pool = s.pool := by
  unfold State.requestCommit
  simp
@[simp] theorem State.requestCommit_ctl (s : State) (user : LinkUser) (o : FlashOp) :
    (s.requestCommit user o).ctl = s.ctl := by
  unfold State.requestCommit
  simp
@[simp] theorem State.requestCommit_values (s : State) (user : LinkUser) (o : FlashOp) :
    (s.requestCommit user o).values = s.values := by
  unfold State.requestCommit
  simp
@[simp] theorem State.requestCommit_wire (s : State) (user : LinkUser) (o : FlashOp) :
    (s.requestCommit user o).wire = s.wire := by
  unfold State.requestCommit
  simp
@[simp] theorem State.requestCommit_pending (s : State) (user : LinkUser) (o : FlashOp) :
    (s.requestCommit user o).pending = s.pending := by
  unfold State.requestCommit
  simp

/-! ## requestEraseJournal -/

@[simp] theorem State.requestEraseJournal_now (s : State) (o : FlashOp) : (s.requestEraseJournal o).now = s.now := by
  unfold State.requestEraseJournal
  simp
@[simp] theorem State.requestEraseJournal_port (s : State) (o : FlashOp) :
    (s.requestEraseJournal o).port = s.port := by
  unfold State.requestEraseJournal
  simp
@[simp] theorem State.requestEraseJournal_staging (s : State) (o : FlashOp) :
    (s.requestEraseJournal o).staging = s.staging := by
  unfold State.requestEraseJournal
  simp
@[simp] theorem State.requestEraseJournal_heldRun (s : State) (o : FlashOp) :
    (s.requestEraseJournal o).heldRun = s.heldRun := by
  unfold State.requestEraseJournal
  simp
@[simp] theorem State.requestEraseJournal_timer (s : State) (o : FlashOp) :
    (s.requestEraseJournal o).timer = s.timer := by
  unfold State.requestEraseJournal
  simp
@[simp] theorem State.requestEraseJournal_engine (s : State) (o : FlashOp) :
    (s.requestEraseJournal o).engine = s.engine := by
  unfold State.requestEraseJournal
  simp
@[simp] theorem State.requestEraseJournal_tables (s : State) (o : FlashOp) :
    (s.requestEraseJournal o).tables = s.tables := by
  unfold State.requestEraseJournal
  simp
@[simp] theorem State.requestEraseJournal_journal (s : State) (o : FlashOp) :
    (s.requestEraseJournal o).journal = s.journal := by
  unfold State.requestEraseJournal
  simp
@[simp] theorem State.requestEraseJournal_pool (s : State) (o : FlashOp) :
    (s.requestEraseJournal o).pool = s.pool := by
  unfold State.requestEraseJournal
  simp
@[simp] theorem State.requestEraseJournal_ctl (s : State) (o : FlashOp) : (s.requestEraseJournal o).ctl = s.ctl := by
  unfold State.requestEraseJournal
  simp
@[simp] theorem State.requestEraseJournal_values (s : State) (o : FlashOp) :
    (s.requestEraseJournal o).values = s.values := by
  unfold State.requestEraseJournal
  simp
@[simp] theorem State.requestEraseJournal_wire (s : State) (o : FlashOp) :
    (s.requestEraseJournal o).wire = s.wire := by
  unfold State.requestEraseJournal
  simp
@[simp] theorem State.requestEraseJournal_pending (s : State) (o : FlashOp) :
    (s.requestEraseJournal o).pending = s.pending := by
  unfold State.requestEraseJournal
  simp

/-! ## lookForWork -/

@[simp] theorem State.lookForWork_now (s : State) : s.lookForWork.now = s.now := by
  unfold State.lookForWork
  repeat' split
  all_goals simp
@[simp] theorem State.lookForWork_port (s : State) : s.lookForWork.port = s.port := by
  unfold State.lookForWork
  repeat' split
  all_goals simp
@[simp] theorem State.lookForWork_staging (s : State) : s.lookForWork.staging = s.staging := by
  unfold State.lookForWork
  repeat' split
  all_goals simp
@[simp] theorem State.lookForWork_heldRun (s : State) : s.lookForWork.heldRun = s.heldRun := by
  unfold State.lookForWork
  repeat' split
  all_goals simp
@[simp] theorem State.lookForWork_timer (s : State) : s.lookForWork.timer = s.timer := by
  unfold State.lookForWork
  repeat' split
  all_goals simp
@[simp] theorem State.lookForWork_engine (s : State) : s.lookForWork.engine = s.engine := by
  unfold State.lookForWork
  repeat' split
  all_goals simp
@[simp] theorem State.lookForWork_tables (s : State) : s.lookForWork.tables = s.tables := by
  unfold State.lookForWork
  repeat' split
  all_goals simp
@[simp] theorem State.lookForWork_journal (s : State) : s.lookForWork.journal = s.journal := by
  unfold State.lookForWork
  repeat' split
  all_goals simp
@[simp] theorem State.lookForWork_ctl (s : State) : s.lookForWork.ctl = s.ctl := by
  unfold State.lookForWork
  repeat' split
  all_goals simp
@[simp] theorem State.lookForWork_values (s : State) : s.lookForWork.values = s.values := by
  unfold State.lookForWork
  repeat' split
  all_goals simp
@[simp] theorem State.lookForWork_wire (s : State) : s.lookForWork.wire = s.wire := by
  unfold State.lookForWork
  repeat' split
  all_goals simp
@[simp] theorem State.lookForWork_pending (s : State) : s.lookForWork.pending = s.pending := by
  unfold State.lookForWork
  repeat' split
  all_goals simp

/-! ## endTurn -/

@[simp] theorem State.endTurn_now (s : State) : s.endTurn.now = s.now := by
  unfold State.endTurn
  simp
@[simp] theorem State.endTurn_port (s : State) : s.endTurn.port = s.port := by
  unfold State.endTurn
  simp
@[simp] theorem State.endTurn_staging (s : State) : s.endTurn.staging = s.staging := by
  unfold State.endTurn
  simp
@[simp] theorem State.endTurn_heldRun (s : State) : s.endTurn.heldRun = s.heldRun := by
  unfold State.endTurn
  simp
@[simp] theorem State.endTurn_timer (s : State) : s.endTurn.timer = s.timer := by
  unfold State.endTurn
  simp
@[simp] theorem State.endTurn_engine (s : State) : s.endTurn.engine = s.engine := by
  unfold State.endTurn
  simp
@[simp] theorem State.endTurn_tables (s : State) : s.endTurn.tables = s.tables := by
  unfold State.endTurn
  simp
@[simp] theorem State.endTurn_journal (s : State) : s.endTurn.journal = s.journal := by
  unfold State.endTurn
  simp
@[simp] theorem State.endTurn_ctl (s : State) : s.endTurn.ctl = s.ctl := by
  unfold State.endTurn
  simp
@[simp] theorem State.endTurn_values (s : State) : s.endTurn.values = s.values := by
  unfold State.endTurn
  simp
@[simp] theorem State.endTurn_wire (s : State) : s.endTurn.wire = s.wire := by
  unfold State.endTurn
  simp
@[simp] theorem State.endTurn_pending (s : State) : s.endTurn.pending = s.pending := by
  unfold State.endTurn
  simp

/-! ## sealAll -/

@[simp] theorem State.sealAll_now (s : State) : s.sealAll.now = s.now := by
  unfold State.sealAll
  simp
@[simp] theorem State.sealAll_port (s : State) : s.sealAll.port = s.port := by
  unfold State.sealAll
  simp
@[simp] theorem State.sealAll_heldRun (s : State) : s.sealAll.heldRun = s.heldRun := by
  unfold State.sealAll
  simp
@[simp] theorem State.sealAll_engine (s : State) : s.sealAll.engine = s.engine := by
  unfold State.sealAll
  simp
@[simp] theorem State.sealAll_tables (s : State) : s.sealAll.tables = s.tables := by
  unfold State.sealAll
  simp
@[simp] theorem State.sealAll_journal (s : State) : s.sealAll.journal = s.journal := by
  unfold State.sealAll
  simp
@[simp] theorem State.sealAll_pool (s : State) : s.sealAll.pool = s.pool := by
  unfold State.sealAll
  simp
@[simp] theorem State.sealAll_link (s : State) : s.sealAll.link = s.link := by
  unfold State.sealAll
  simp
@[simp] theorem State.sealAll_ctl (s : State) : s.sealAll.ctl = s.ctl := by
  unfold State.sealAll
  simp
@[simp] theorem State.sealAll_values (s : State) : s.sealAll.values = s.values := by
  unfold State.sealAll
  simp
@[simp] theorem State.sealAll_wire (s : State) : s.sealAll.wire = s.wire := by
  unfold State.sealAll
  simp
@[simp] theorem State.sealAll_pending (s : State) : s.sealAll.pending = s.pending := by
  unfold State.sealAll
  simp

/-! ## pressureSeal -/

@[simp] theorem State.pressureSeal_now (s : State) : s.pressureSeal.now = s.now := by
  unfold State.pressureSeal
  repeat' split
  all_goals simp
@[simp] theorem State.pressureSeal_port (s : State) : s.pressureSeal.port = s.port := by
  unfold State.pressureSeal
  repeat' split
  all_goals simp
@[simp] theorem State.pressureSeal_heldRun (s : State) : s.pressureSeal.heldRun = s.heldRun := by
  unfold State.pressureSeal
  repeat' split
  all_goals simp
@[simp] theorem State.pressureSeal_engine (s : State) : s.pressureSeal.engine = s.engine := by
  unfold State.pressureSeal
  repeat' split
  all_goals simp
@[simp] theorem State.pressureSeal_tables (s : State) : s.pressureSeal.tables = s.tables := by
  unfold State.pressureSeal
  repeat' split
  all_goals simp
@[simp] theorem State.pressureSeal_journal (s : State) : s.pressureSeal.journal = s.journal := by
  unfold State.pressureSeal
  repeat' split
  all_goals simp
@[simp] theorem State.pressureSeal_pool (s : State) : s.pressureSeal.pool = s.pool := by
  unfold State.pressureSeal
  repeat' split
  all_goals simp
@[simp] theorem State.pressureSeal_link (s : State) : s.pressureSeal.link = s.link := by
  unfold State.pressureSeal
  repeat' split
  all_goals simp
@[simp] theorem State.pressureSeal_ctl (s : State) : s.pressureSeal.ctl = s.ctl := by
  unfold State.pressureSeal
  repeat' split
  all_goals simp
@[simp] theorem State.pressureSeal_values (s : State) : s.pressureSeal.values = s.values := by
  unfold State.pressureSeal
  repeat' split
  all_goals simp
@[simp] theorem State.pressureSeal_wire (s : State) : s.pressureSeal.wire = s.wire := by
  unfold State.pressureSeal
  repeat' split
  all_goals simp
@[simp] theorem State.pressureSeal_pending (s : State) : s.pressureSeal.pending = s.pending := by
  unfold State.pressureSeal
  repeat' split
  all_goals simp

/-! ## writeInto -/

@[simp] theorem State.writeInto_now (s : State) (i : Nat) (w : PageWrite) : (s.writeInto i w).now = s.now := by
  unfold State.writeInto
  simp
@[simp] theorem State.writeInto_port (s : State) (i : Nat) (w : PageWrite) : (s.writeInto i w).port = s.port := by
  unfold State.writeInto
  simp
@[simp] theorem State.writeInto_heldRun (s : State) (i : Nat) (w : PageWrite) :
    (s.writeInto i w).heldRun = s.heldRun := by
  unfold State.writeInto
  simp
@[simp] theorem State.writeInto_engine (s : State) (i : Nat) (w : PageWrite) :
    (s.writeInto i w).engine = s.engine := by
  unfold State.writeInto
  simp
@[simp] theorem State.writeInto_tables (s : State) (i : Nat) (w : PageWrite) :
    (s.writeInto i w).tables = s.tables := by
  unfold State.writeInto
  simp
@[simp] theorem State.writeInto_journal (s : State) (i : Nat) (w : PageWrite) :
    (s.writeInto i w).journal = s.journal := by
  unfold State.writeInto
  simp
@[simp] theorem State.writeInto_pool (s : State) (i : Nat) (w : PageWrite) : (s.writeInto i w).pool = s.pool := by
  unfold State.writeInto
  simp
@[simp] theorem State.writeInto_link (s : State) (i : Nat) (w : PageWrite) : (s.writeInto i w).link = s.link := by
  unfold State.writeInto
  simp
@[simp] theorem State.writeInto_ctl (s : State) (i : Nat) (w : PageWrite) : (s.writeInto i w).ctl = s.ctl := by
  unfold State.writeInto
  simp
@[simp] theorem State.writeInto_values (s : State) (i : Nat) (w : PageWrite) :
    (s.writeInto i w).values = s.values := by
  unfold State.writeInto
  simp
@[simp] theorem State.writeInto_wire (s : State) (i : Nat) (w : PageWrite) : (s.writeInto i w).wire = s.wire := by
  unfold State.writeInto
  simp
@[simp] theorem State.writeInto_pending (s : State) (i : Nat) (w : PageWrite) :
    (s.writeInto i w).pending = s.pending := by
  unfold State.writeInto
  simp

/-! ## allocateFor -/

@[simp] theorem State.allocateFor_now (s : State) (i : Nat) (w : PageWrite) : (s.allocateFor i w).now = s.now := by
  unfold State.allocateFor
  dsimp only
  repeat' split
  all_goals simp
@[simp] theorem State.allocateFor_port (s : State) (i : Nat) (w : PageWrite) : (s.allocateFor i w).port = s.port := by
  unfold State.allocateFor
  dsimp only
  repeat' split
  all_goals simp
@[simp] theorem State.allocateFor_heldRun (s : State) (i : Nat) (w : PageWrite) :
    (s.allocateFor i w).heldRun = s.heldRun := by
  unfold State.allocateFor
  dsimp only
  repeat' split
  all_goals simp
@[simp] theorem State.allocateFor_engine (s : State) (i : Nat) (w : PageWrite) :
    (s.allocateFor i w).engine = s.engine := by
  unfold State.allocateFor
  dsimp only
  repeat' split
  all_goals simp
@[simp] theorem State.allocateFor_tables (s : State) (i : Nat) (w : PageWrite) :
    (s.allocateFor i w).tables = s.tables := by
  unfold State.allocateFor
  dsimp only
  repeat' split
  all_goals simp
@[simp] theorem State.allocateFor_journal (s : State) (i : Nat) (w : PageWrite) :
    (s.allocateFor i w).journal = s.journal := by
  unfold State.allocateFor
  dsimp only
  repeat' split
  all_goals simp
@[simp] theorem State.allocateFor_pool (s : State) (i : Nat) (w : PageWrite) : (s.allocateFor i w).pool = s.pool := by
  unfold State.allocateFor
  dsimp only
  repeat' split
  all_goals simp
@[simp] theorem State.allocateFor_link (s : State) (i : Nat) (w : PageWrite) : (s.allocateFor i w).link = s.link := by
  unfold State.allocateFor
  dsimp only
  repeat' split
  all_goals simp
@[simp] theorem State.allocateFor_ctl (s : State) (i : Nat) (w : PageWrite) : (s.allocateFor i w).ctl = s.ctl := by
  unfold State.allocateFor
  dsimp only
  repeat' split
  all_goals simp
@[simp] theorem State.allocateFor_values (s : State) (i : Nat) (w : PageWrite) :
    (s.allocateFor i w).values = s.values := by
  unfold State.allocateFor
  dsimp only
  repeat' split
  all_goals simp
@[simp] theorem State.allocateFor_wire (s : State) (i : Nat) (w : PageWrite) : (s.allocateFor i w).wire = s.wire := by
  unfold State.allocateFor
  dsimp only
  repeat' split
  all_goals simp
@[simp] theorem State.allocateFor_pending (s : State) (i : Nat) (w : PageWrite) :
    (s.allocateFor i w).pending = s.pending := by
  unfold State.allocateFor
  dsimp only
  repeat' split
  all_goals simp

/-! ## decideWrite -/

@[simp] theorem State.decideWrite_now (s : State) (w : PageWrite) : (s.decideWrite w).now = s.now := by
  unfold State.decideWrite
  repeat' split
  all_goals simp
@[simp] theorem State.decideWrite_heldRun (s : State) (w : PageWrite) : (s.decideWrite w).heldRun = s.heldRun := by
  unfold State.decideWrite
  repeat' split
  all_goals simp
@[simp] theorem State.decideWrite_engine (s : State) (w : PageWrite) : (s.decideWrite w).engine = s.engine := by
  unfold State.decideWrite
  repeat' split
  all_goals simp
@[simp] theorem State.decideWrite_tables (s : State) (w : PageWrite) : (s.decideWrite w).tables = s.tables := by
  unfold State.decideWrite
  repeat' split
  all_goals simp
@[simp] theorem State.decideWrite_journal (s : State) (w : PageWrite) : (s.decideWrite w).journal = s.journal := by
  unfold State.decideWrite
  repeat' split
  all_goals simp
@[simp] theorem State.decideWrite_pool (s : State) (w : PageWrite) : (s.decideWrite w).pool = s.pool := by
  unfold State.decideWrite
  repeat' split
  all_goals simp
@[simp] theorem State.decideWrite_link (s : State) (w : PageWrite) : (s.decideWrite w).link = s.link := by
  unfold State.decideWrite
  repeat' split
  all_goals simp
@[simp] theorem State.decideWrite_ctl (s : State) (w : PageWrite) : (s.decideWrite w).ctl = s.ctl := by
  unfold State.decideWrite
  repeat' split
  all_goals simp
@[simp] theorem State.decideWrite_values (s : State) (w : PageWrite) : (s.decideWrite w).values = s.values := by
  unfold State.decideWrite
  repeat' split
  all_goals simp
@[simp] theorem State.decideWrite_wire (s : State) (w : PageWrite) : (s.decideWrite w).wire = s.wire := by
  unfold State.decideWrite
  repeat' split
  all_goals simp
@[simp] theorem State.decideWrite_pending (s : State) (w : PageWrite) : (s.decideWrite w).pending = s.pending := by
  unfold State.decideWrite
  repeat' split
  all_goals simp

/-! ## dropWaiting -/

@[simp] theorem State.dropWaiting_now (s : State) : s.dropWaiting.now = s.now := by
  unfold State.dropWaiting
  simp
@[simp] theorem State.dropWaiting_port (s : State) : s.dropWaiting.port = s.port := by
  unfold State.dropWaiting
  simp
@[simp] theorem State.dropWaiting_heldRun (s : State) : s.dropWaiting.heldRun = s.heldRun := by
  unfold State.dropWaiting
  simp
@[simp] theorem State.dropWaiting_timer (s : State) : s.dropWaiting.timer = s.timer := by
  unfold State.dropWaiting
  simp
@[simp] theorem State.dropWaiting_engine (s : State) : s.dropWaiting.engine = s.engine := by
  unfold State.dropWaiting
  simp
@[simp] theorem State.dropWaiting_tables (s : State) : s.dropWaiting.tables = s.tables := by
  unfold State.dropWaiting
  simp
@[simp] theorem State.dropWaiting_journal (s : State) : s.dropWaiting.journal = s.journal := by
  unfold State.dropWaiting
  simp
@[simp] theorem State.dropWaiting_pool (s : State) : s.dropWaiting.pool = s.pool := by
  unfold State.dropWaiting
  simp
@[simp] theorem State.dropWaiting_link (s : State) : s.dropWaiting.link = s.link := by
  unfold State.dropWaiting
  simp
@[simp] theorem State.dropWaiting_ctl (s : State) : s.dropWaiting.ctl = s.ctl := by
  unfold State.dropWaiting
  simp
@[simp] theorem State.dropWaiting_values (s : State) : s.dropWaiting.values = s.values := by
  unfold State.dropWaiting
  simp
@[simp] theorem State.dropWaiting_wire (s : State) : s.dropWaiting.wire = s.wire := by
  unfold State.dropWaiting
  simp
@[simp] theorem State.dropWaiting_pending (s : State) : s.dropWaiting.pending = s.pending := by
  unfold State.dropWaiting
  simp

/-! ## setOp -/

@[simp] theorem State.setOp_now (s : State) (user : LinkUser) (o : FlashOp) (stage : OpStage) :
    (s.setOp user o stage).now = s.now := by
  unfold State.setOp
  simp
@[simp] theorem State.setOp_port (s : State) (user : LinkUser) (o : FlashOp) (stage : OpStage) :
    (s.setOp user o stage).port = s.port := by
  unfold State.setOp
  simp
@[simp] theorem State.setOp_staging (s : State) (user : LinkUser) (o : FlashOp) (stage : OpStage) :
    (s.setOp user o stage).staging = s.staging := by
  unfold State.setOp
  simp
@[simp] theorem State.setOp_heldRun (s : State) (user : LinkUser) (o : FlashOp) (stage : OpStage) :
    (s.setOp user o stage).heldRun = s.heldRun := by
  unfold State.setOp
  simp
@[simp] theorem State.setOp_timer (s : State) (user : LinkUser) (o : FlashOp) (stage : OpStage) :
    (s.setOp user o stage).timer = s.timer := by
  unfold State.setOp
  simp
@[simp] theorem State.setOp_engine (s : State) (user : LinkUser) (o : FlashOp) (stage : OpStage) :
    (s.setOp user o stage).engine = s.engine := by
  unfold State.setOp
  simp
@[simp] theorem State.setOp_tables (s : State) (user : LinkUser) (o : FlashOp) (stage : OpStage) :
    (s.setOp user o stage).tables = s.tables := by
  unfold State.setOp
  simp
@[simp] theorem State.setOp_journal (s : State) (user : LinkUser) (o : FlashOp) (stage : OpStage) :
    (s.setOp user o stage).journal = s.journal := by
  unfold State.setOp
  simp
@[simp] theorem State.setOp_pool (s : State) (user : LinkUser) (o : FlashOp) (stage : OpStage) :
    (s.setOp user o stage).pool = s.pool := by
  unfold State.setOp
  simp
@[simp] theorem State.setOp_ctl (s : State) (user : LinkUser) (o : FlashOp) (stage : OpStage) :
    (s.setOp user o stage).ctl = s.ctl := by
  unfold State.setOp
  simp
@[simp] theorem State.setOp_values (s : State) (user : LinkUser) (o : FlashOp) (stage : OpStage) :
    (s.setOp user o stage).values = s.values := by
  unfold State.setOp
  simp
@[simp] theorem State.setOp_wire (s : State) (user : LinkUser) (o : FlashOp) (stage : OpStage) :
    (s.setOp user o stage).wire = s.wire := by
  unfold State.setOp
  simp
@[simp] theorem State.setOp_pending (s : State) (user : LinkUser) (o : FlashOp) (stage : OpStage) :
    (s.setOp user o stage).pending = s.pending := by
  unfold State.setOp
  simp

/-! ## beginRead -/

@[simp] theorem State.beginRead_now (s : State) (user : LinkUser) (o : FlashOp) (addr len : Nat) :
    (s.beginRead user o addr len).now = s.now := by
  unfold State.beginRead
  simp
@[simp] theorem State.beginRead_port (s : State) (user : LinkUser) (o : FlashOp) (addr len : Nat) :
    (s.beginRead user o addr len).port = s.port := by
  unfold State.beginRead
  simp
@[simp] theorem State.beginRead_staging (s : State) (user : LinkUser) (o : FlashOp) (addr len : Nat) :
    (s.beginRead user o addr len).staging = s.staging := by
  unfold State.beginRead
  simp
@[simp] theorem State.beginRead_heldRun (s : State) (user : LinkUser) (o : FlashOp) (addr len : Nat) :
    (s.beginRead user o addr len).heldRun = s.heldRun := by
  unfold State.beginRead
  simp
@[simp] theorem State.beginRead_timer (s : State) (user : LinkUser) (o : FlashOp) (addr len : Nat) :
    (s.beginRead user o addr len).timer = s.timer := by
  unfold State.beginRead
  simp
@[simp] theorem State.beginRead_engine (s : State) (user : LinkUser) (o : FlashOp) (addr len : Nat) :
    (s.beginRead user o addr len).engine = s.engine := by
  unfold State.beginRead
  simp
@[simp] theorem State.beginRead_tables (s : State) (user : LinkUser) (o : FlashOp) (addr len : Nat) :
    (s.beginRead user o addr len).tables = s.tables := by
  unfold State.beginRead
  simp
@[simp] theorem State.beginRead_journal (s : State) (user : LinkUser) (o : FlashOp) (addr len : Nat) :
    (s.beginRead user o addr len).journal = s.journal := by
  unfold State.beginRead
  simp
@[simp] theorem State.beginRead_pool (s : State) (user : LinkUser) (o : FlashOp) (addr len : Nat) :
    (s.beginRead user o addr len).pool = s.pool := by
  unfold State.beginRead
  simp
@[simp] theorem State.beginRead_ctl (s : State) (user : LinkUser) (o : FlashOp) (addr len : Nat) :
    (s.beginRead user o addr len).ctl = s.ctl := by
  unfold State.beginRead
  simp
@[simp] theorem State.beginRead_values (s : State) (user : LinkUser) (o : FlashOp) (addr len : Nat) :
    (s.beginRead user o addr len).values = s.values := by
  unfold State.beginRead
  simp
@[simp] theorem State.beginRead_pending (s : State) (user : LinkUser) (o : FlashOp) (addr len : Nat) :
    (s.beginRead user o addr len).pending = s.pending := by
  unfold State.beginRead
  simp

/-! ## firstCommand -/

@[simp] theorem State.firstCommand_now (s : State) (user : LinkUser) (o : FlashOp) :
    (s.firstCommand user o).now = s.now := by
  unfold State.firstCommand
  repeat' split
  all_goals simp
@[simp] theorem State.firstCommand_port (s : State) (user : LinkUser) (o : FlashOp) :
    (s.firstCommand user o).port = s.port := by
  unfold State.firstCommand
  repeat' split
  all_goals simp
@[simp] theorem State.firstCommand_staging (s : State) (user : LinkUser) (o : FlashOp) :
    (s.firstCommand user o).staging = s.staging := by
  unfold State.firstCommand
  repeat' split
  all_goals simp
@[simp] theorem State.firstCommand_heldRun (s : State) (user : LinkUser) (o : FlashOp) :
    (s.firstCommand user o).heldRun = s.heldRun := by
  unfold State.firstCommand
  repeat' split
  all_goals simp
@[simp] theorem State.firstCommand_timer (s : State) (user : LinkUser) (o : FlashOp) :
    (s.firstCommand user o).timer = s.timer := by
  unfold State.firstCommand
  repeat' split
  all_goals simp
@[simp] theorem State.firstCommand_engine (s : State) (user : LinkUser) (o : FlashOp) :
    (s.firstCommand user o).engine = s.engine := by
  unfold State.firstCommand
  repeat' split
  all_goals simp
@[simp] theorem State.firstCommand_tables (s : State) (user : LinkUser) (o : FlashOp) :
    (s.firstCommand user o).tables = s.tables := by
  unfold State.firstCommand
  repeat' split
  all_goals simp
@[simp] theorem State.firstCommand_journal (s : State) (user : LinkUser) (o : FlashOp) :
    (s.firstCommand user o).journal = s.journal := by
  unfold State.firstCommand
  repeat' split
  all_goals simp
@[simp] theorem State.firstCommand_pool (s : State) (user : LinkUser) (o : FlashOp) :
    (s.firstCommand user o).pool = s.pool := by
  unfold State.firstCommand
  repeat' split
  all_goals simp
@[simp] theorem State.firstCommand_ctl (s : State) (user : LinkUser) (o : FlashOp) :
    (s.firstCommand user o).ctl = s.ctl := by
  unfold State.firstCommand
  repeat' split
  all_goals simp
@[simp] theorem State.firstCommand_values (s : State) (user : LinkUser) (o : FlashOp) :
    (s.firstCommand user o).values = s.values := by
  unfold State.firstCommand
  repeat' split
  all_goals simp
@[simp] theorem State.firstCommand_pending (s : State) (user : LinkUser) (o : FlashOp) :
    (s.firstCommand user o).pending = s.pending := by
  unfold State.firstCommand
  repeat' split
  all_goals simp

/-! ## startOp -/

@[simp] theorem State.startOp_now (s : State) (user : LinkUser) (o : FlashOp) : (s.startOp user o).now = s.now := by
  unfold State.startOp
  repeat' split
  all_goals simp
@[simp] theorem State.startOp_port (s : State) (user : LinkUser) (o : FlashOp) :
    (s.startOp user o).port = s.port := by
  unfold State.startOp
  repeat' split
  all_goals simp
@[simp] theorem State.startOp_staging (s : State) (user : LinkUser) (o : FlashOp) :
    (s.startOp user o).staging = s.staging := by
  unfold State.startOp
  repeat' split
  all_goals simp
@[simp] theorem State.startOp_heldRun (s : State) (user : LinkUser) (o : FlashOp) :
    (s.startOp user o).heldRun = s.heldRun := by
  unfold State.startOp
  repeat' split
  all_goals simp
@[simp] theorem State.startOp_timer (s : State) (user : LinkUser) (o : FlashOp) :
    (s.startOp user o).timer = s.timer := by
  unfold State.startOp
  repeat' split
  all_goals simp
@[simp] theorem State.startOp_engine (s : State) (user : LinkUser) (o : FlashOp) :
    (s.startOp user o).engine = s.engine := by
  unfold State.startOp
  repeat' split
  all_goals simp
@[simp] theorem State.startOp_tables (s : State) (user : LinkUser) (o : FlashOp) :
    (s.startOp user o).tables = s.tables := by
  unfold State.startOp
  repeat' split
  all_goals simp
@[simp] theorem State.startOp_journal (s : State) (user : LinkUser) (o : FlashOp) :
    (s.startOp user o).journal = s.journal := by
  unfold State.startOp
  repeat' split
  all_goals simp
@[simp] theorem State.startOp_pool (s : State) (user : LinkUser) (o : FlashOp) :
    (s.startOp user o).pool = s.pool := by
  unfold State.startOp
  repeat' split
  all_goals simp
@[simp] theorem State.startOp_ctl (s : State) (user : LinkUser) (o : FlashOp) : (s.startOp user o).ctl = s.ctl := by
  unfold State.startOp
  repeat' split
  all_goals simp
@[simp] theorem State.startOp_values (s : State) (user : LinkUser) (o : FlashOp) :
    (s.startOp user o).values = s.values := by
  unfold State.startOp
  repeat' split
  all_goals simp
@[simp] theorem State.startOp_pending (s : State) (user : LinkUser) (o : FlashOp) :
    (s.startOp user o).pending = s.pending := by
  unfold State.startOp
  repeat' split
  all_goals simp

/-! ## suspendErase -/

@[simp] theorem State.suspendErase_now (s : State) : s.suspendErase.now = s.now := by
  unfold State.suspendErase
  repeat' split
  all_goals simp
@[simp] theorem State.suspendErase_port (s : State) : s.suspendErase.port = s.port := by
  unfold State.suspendErase
  repeat' split
  all_goals simp
@[simp] theorem State.suspendErase_staging (s : State) : s.suspendErase.staging = s.staging := by
  unfold State.suspendErase
  repeat' split
  all_goals simp
@[simp] theorem State.suspendErase_heldRun (s : State) : s.suspendErase.heldRun = s.heldRun := by
  unfold State.suspendErase
  repeat' split
  all_goals simp
@[simp] theorem State.suspendErase_timer (s : State) : s.suspendErase.timer = s.timer := by
  unfold State.suspendErase
  repeat' split
  all_goals simp
@[simp] theorem State.suspendErase_engine (s : State) : s.suspendErase.engine = s.engine := by
  unfold State.suspendErase
  repeat' split
  all_goals simp
@[simp] theorem State.suspendErase_tables (s : State) : s.suspendErase.tables = s.tables := by
  unfold State.suspendErase
  repeat' split
  all_goals simp
@[simp] theorem State.suspendErase_journal (s : State) : s.suspendErase.journal = s.journal := by
  unfold State.suspendErase
  repeat' split
  all_goals simp
@[simp] theorem State.suspendErase_pool (s : State) : s.suspendErase.pool = s.pool := by
  unfold State.suspendErase
  repeat' split
  all_goals simp
@[simp] theorem State.suspendErase_ctl (s : State) : s.suspendErase.ctl = s.ctl := by
  unfold State.suspendErase
  repeat' split
  all_goals simp
@[simp] theorem State.suspendErase_values (s : State) : s.suspendErase.values = s.values := by
  unfold State.suspendErase
  repeat' split
  all_goals simp
@[simp] theorem State.suspendErase_pending (s : State) : s.suspendErase.pending = s.pending := by
  unfold State.suspendErase
  repeat' split
  all_goals simp

/-! ## trySuspend -/

@[simp] theorem State.trySuspend_now (s : State) : s.trySuspend.now = s.now := by
  unfold State.trySuspend
  repeat' split
  all_goals simp
@[simp] theorem State.trySuspend_port (s : State) : s.trySuspend.port = s.port := by
  unfold State.trySuspend
  repeat' split
  all_goals simp
@[simp] theorem State.trySuspend_staging (s : State) : s.trySuspend.staging = s.staging := by
  unfold State.trySuspend
  repeat' split
  all_goals simp
@[simp] theorem State.trySuspend_heldRun (s : State) : s.trySuspend.heldRun = s.heldRun := by
  unfold State.trySuspend
  repeat' split
  all_goals simp
@[simp] theorem State.trySuspend_timer (s : State) : s.trySuspend.timer = s.timer := by
  unfold State.trySuspend
  repeat' split
  all_goals simp
@[simp] theorem State.trySuspend_engine (s : State) : s.trySuspend.engine = s.engine := by
  unfold State.trySuspend
  repeat' split
  all_goals simp
@[simp] theorem State.trySuspend_tables (s : State) : s.trySuspend.tables = s.tables := by
  unfold State.trySuspend
  repeat' split
  all_goals simp
@[simp] theorem State.trySuspend_journal (s : State) : s.trySuspend.journal = s.journal := by
  unfold State.trySuspend
  repeat' split
  all_goals simp
@[simp] theorem State.trySuspend_pool (s : State) : s.trySuspend.pool = s.pool := by
  unfold State.trySuspend
  repeat' split
  all_goals simp
@[simp] theorem State.trySuspend_ctl (s : State) : s.trySuspend.ctl = s.ctl := by
  unfold State.trySuspend
  repeat' split
  all_goals simp
@[simp] theorem State.trySuspend_values (s : State) : s.trySuspend.values = s.values := by
  unfold State.trySuspend
  repeat' split
  all_goals simp
@[simp] theorem State.trySuspend_pending (s : State) : s.trySuspend.pending = s.pending := by
  unfold State.trySuspend
  repeat' split
  all_goals simp

/-! ## tryResume -/

@[simp] theorem State.tryResume_now (s : State) : s.tryResume.now = s.now := by
  unfold State.tryResume
  repeat' split
  all_goals simp
@[simp] theorem State.tryResume_port (s : State) : s.tryResume.port = s.port := by
  unfold State.tryResume
  repeat' split
  all_goals simp
@[simp] theorem State.tryResume_staging (s : State) : s.tryResume.staging = s.staging := by
  unfold State.tryResume
  repeat' split
  all_goals simp
@[simp] theorem State.tryResume_heldRun (s : State) : s.tryResume.heldRun = s.heldRun := by
  unfold State.tryResume
  repeat' split
  all_goals simp
@[simp] theorem State.tryResume_timer (s : State) : s.tryResume.timer = s.timer := by
  unfold State.tryResume
  repeat' split
  all_goals simp
@[simp] theorem State.tryResume_engine (s : State) : s.tryResume.engine = s.engine := by
  unfold State.tryResume
  repeat' split
  all_goals simp
@[simp] theorem State.tryResume_tables (s : State) : s.tryResume.tables = s.tables := by
  unfold State.tryResume
  repeat' split
  all_goals simp
@[simp] theorem State.tryResume_journal (s : State) : s.tryResume.journal = s.journal := by
  unfold State.tryResume
  repeat' split
  all_goals simp
@[simp] theorem State.tryResume_pool (s : State) : s.tryResume.pool = s.pool := by
  unfold State.tryResume
  repeat' split
  all_goals simp
@[simp] theorem State.tryResume_ctl (s : State) : s.tryResume.ctl = s.ctl := by
  unfold State.tryResume
  repeat' split
  all_goals simp
@[simp] theorem State.tryResume_values (s : State) : s.tryResume.values = s.values := by
  unfold State.tryResume
  repeat' split
  all_goals simp
@[simp] theorem State.tryResume_pending (s : State) : s.tryResume.pending = s.pending := by
  unfold State.tryResume
  repeat' split
  all_goals simp

/-! ## requestRun -/

@[simp] theorem State.requestRun_now (s : State) (r : Run) : (s.requestRun r).now = s.now := by
  unfold State.requestRun
  repeat' split
  all_goals simp
@[simp] theorem State.requestRun_port (s : State) (r : Run) : (s.requestRun r).port = s.port := by
  unfold State.requestRun
  repeat' split
  all_goals simp
@[simp] theorem State.requestRun_staging (s : State) (r : Run) : (s.requestRun r).staging = s.staging := by
  unfold State.requestRun
  repeat' split
  all_goals simp
@[simp] theorem State.requestRun_timer (s : State) (r : Run) : (s.requestRun r).timer = s.timer := by
  unfold State.requestRun
  repeat' split
  all_goals simp
@[simp] theorem State.requestRun_engine (s : State) (r : Run) : (s.requestRun r).engine = s.engine := by
  unfold State.requestRun
  repeat' split
  all_goals simp
@[simp] theorem State.requestRun_tables (s : State) (r : Run) : (s.requestRun r).tables = s.tables := by
  unfold State.requestRun
  repeat' split
  all_goals simp
@[simp] theorem State.requestRun_journal (s : State) (r : Run) : (s.requestRun r).journal = s.journal := by
  unfold State.requestRun
  repeat' split
  all_goals simp
@[simp] theorem State.requestRun_pool (s : State) (r : Run) : (s.requestRun r).pool = s.pool := by
  unfold State.requestRun
  repeat' split
  all_goals simp
@[simp] theorem State.requestRun_ctl (s : State) (r : Run) : (s.requestRun r).ctl = s.ctl := by
  unfold State.requestRun
  repeat' split
  all_goals simp
@[simp] theorem State.requestRun_values (s : State) (r : Run) : (s.requestRun r).values = s.values := by
  unfold State.requestRun
  repeat' split
  all_goals simp
@[simp] theorem State.requestRun_pending (s : State) (r : Run) : (s.requestRun r).pending = s.pending := by
  unfold State.requestRun
  repeat' split
  all_goals simp

/-! ## endRun -/

@[simp] theorem State.endRun_now (s : State) : s.endRun.now = s.now := by
  unfold State.endRun
  repeat' split
  all_goals simp
@[simp] theorem State.endRun_port (s : State) : s.endRun.port = s.port := by
  unfold State.endRun
  repeat' split
  all_goals simp
@[simp] theorem State.endRun_staging (s : State) : s.endRun.staging = s.staging := by
  unfold State.endRun
  repeat' split
  all_goals simp
@[simp] theorem State.endRun_timer (s : State) : s.endRun.timer = s.timer := by
  unfold State.endRun
  repeat' split
  all_goals simp
@[simp] theorem State.endRun_engine (s : State) : s.endRun.engine = s.engine := by
  unfold State.endRun
  repeat' split
  all_goals simp
@[simp] theorem State.endRun_tables (s : State) : s.endRun.tables = s.tables := by
  unfold State.endRun
  repeat' split
  all_goals simp
@[simp] theorem State.endRun_journal (s : State) : s.endRun.journal = s.journal := by
  unfold State.endRun
  repeat' split
  all_goals simp
@[simp] theorem State.endRun_pool (s : State) : s.endRun.pool = s.pool := by
  unfold State.endRun
  repeat' split
  all_goals simp
@[simp] theorem State.endRun_ctl (s : State) : s.endRun.ctl = s.ctl := by
  unfold State.endRun
  repeat' split
  all_goals simp
@[simp] theorem State.endRun_values (s : State) : s.endRun.values = s.values := by
  unfold State.endRun
  repeat' split
  all_goals simp
@[simp] theorem State.endRun_wire (s : State) : s.endRun.wire = s.wire := by
  unfold State.endRun
  repeat' split
  all_goals simp
@[simp] theorem State.endRun_pending (s : State) : s.endRun.pending = s.pending := by
  unfold State.endRun
  repeat' split
  all_goals simp

/-! ## failWaiting -/

@[simp] theorem State.failWaiting_now (s : State) : s.failWaiting.now = s.now := by
  unfold State.failWaiting
  repeat' split
  all_goals simp
@[simp] theorem State.failWaiting_heldRun (s : State) : s.failWaiting.heldRun = s.heldRun := by
  unfold State.failWaiting
  repeat' split
  all_goals simp
@[simp] theorem State.failWaiting_timer (s : State) : s.failWaiting.timer = s.timer := by
  unfold State.failWaiting
  repeat' split
  all_goals simp
@[simp] theorem State.failWaiting_engine (s : State) : s.failWaiting.engine = s.engine := by
  unfold State.failWaiting
  repeat' split
  all_goals simp
@[simp] theorem State.failWaiting_tables (s : State) : s.failWaiting.tables = s.tables := by
  unfold State.failWaiting
  repeat' split
  all_goals simp
@[simp] theorem State.failWaiting_journal (s : State) : s.failWaiting.journal = s.journal := by
  unfold State.failWaiting
  repeat' split
  all_goals simp
@[simp] theorem State.failWaiting_pool (s : State) : s.failWaiting.pool = s.pool := by
  unfold State.failWaiting
  repeat' split
  all_goals simp
@[simp] theorem State.failWaiting_link (s : State) : s.failWaiting.link = s.link := by
  unfold State.failWaiting
  repeat' split
  all_goals simp
@[simp] theorem State.failWaiting_ctl (s : State) : s.failWaiting.ctl = s.ctl := by
  unfold State.failWaiting
  repeat' split
  all_goals simp
@[simp] theorem State.failWaiting_values (s : State) : s.failWaiting.values = s.values := by
  unfold State.failWaiting
  repeat' split
  all_goals simp
@[simp] theorem State.failWaiting_wire (s : State) : s.failWaiting.wire = s.wire := by
  unfold State.failWaiting
  repeat' split
  all_goals simp
@[simp] theorem State.failWaiting_pending (s : State) : s.failWaiting.pending = s.pending := by
  unfold State.failWaiting
  repeat' split
  all_goals simp

/-! ## withdrawErase -/

@[simp] theorem State.withdrawErase_now (s : State) : s.withdrawErase.now = s.now := by
  unfold State.withdrawErase
  repeat' split
  all_goals simp
@[simp] theorem State.withdrawErase_port (s : State) : s.withdrawErase.port = s.port := by
  unfold State.withdrawErase
  repeat' split
  all_goals simp
@[simp] theorem State.withdrawErase_staging (s : State) : s.withdrawErase.staging = s.staging := by
  unfold State.withdrawErase
  repeat' split
  all_goals simp
@[simp] theorem State.withdrawErase_heldRun (s : State) : s.withdrawErase.heldRun = s.heldRun := by
  unfold State.withdrawErase
  repeat' split
  all_goals simp
@[simp] theorem State.withdrawErase_timer (s : State) : s.withdrawErase.timer = s.timer := by
  unfold State.withdrawErase
  repeat' split
  all_goals simp
@[simp] theorem State.withdrawErase_engine (s : State) : s.withdrawErase.engine = s.engine := by
  unfold State.withdrawErase
  repeat' split
  all_goals simp
@[simp] theorem State.withdrawErase_tables (s : State) : s.withdrawErase.tables = s.tables := by
  unfold State.withdrawErase
  repeat' split
  all_goals simp
@[simp] theorem State.withdrawErase_journal (s : State) : s.withdrawErase.journal = s.journal := by
  unfold State.withdrawErase
  repeat' split
  all_goals simp
@[simp] theorem State.withdrawErase_ctl (s : State) : s.withdrawErase.ctl = s.ctl := by
  unfold State.withdrawErase
  repeat' split
  all_goals simp
@[simp] theorem State.withdrawErase_values (s : State) : s.withdrawErase.values = s.values := by
  unfold State.withdrawErase
  repeat' split
  all_goals simp
@[simp] theorem State.withdrawErase_wire (s : State) : s.withdrawErase.wire = s.wire := by
  unfold State.withdrawErase
  repeat' split
  all_goals simp
@[simp] theorem State.withdrawErase_pending (s : State) : s.withdrawErase.pending = s.pending := by
  unfold State.withdrawErase
  repeat' split
  all_goals simp

/-! ## setMode -/

@[simp] theorem State.setMode_now (s : State) (m : Mode) : (s.setMode m).now = s.now := by
  unfold State.setMode
  dsimp only
  repeat' split
  all_goals simp
@[simp] theorem State.setMode_heldRun (s : State) (m : Mode) : (s.setMode m).heldRun = s.heldRun := by
  unfold State.setMode
  dsimp only
  repeat' split
  all_goals simp
@[simp] theorem State.setMode_timer (s : State) (m : Mode) : (s.setMode m).timer = s.timer := by
  unfold State.setMode
  dsimp only
  repeat' split
  all_goals simp
@[simp] theorem State.setMode_engine (s : State) (m : Mode) : (s.setMode m).engine = s.engine := by
  unfold State.setMode
  dsimp only
  repeat' split
  all_goals simp
@[simp] theorem State.setMode_tables (s : State) (m : Mode) : (s.setMode m).tables = s.tables := by
  unfold State.setMode
  dsimp only
  repeat' split
  all_goals simp
@[simp] theorem State.setMode_journal (s : State) (m : Mode) : (s.setMode m).journal = s.journal := by
  unfold State.setMode
  dsimp only
  repeat' split
  all_goals simp
@[simp] theorem State.setMode_values (s : State) (m : Mode) : (s.setMode m).values = s.values := by
  unfold State.setMode
  dsimp only
  repeat' split
  all_goals simp
@[simp] theorem State.setMode_wire (s : State) (m : Mode) : (s.setMode m).wire = s.wire := by
  unfold State.setMode
  dsimp only
  repeat' split
  all_goals simp
@[simp] theorem State.setMode_pending (s : State) (m : Mode) : (s.setMode m).pending = s.pending := by
  unfold State.setMode
  dsimp only
  repeat' split
  all_goals simp

/-! ## setLatch -/

@[simp] theorem State.setLatch_now (s : State) : s.setLatch.now = s.now := by
  unfold State.setLatch
  dsimp only
  repeat' split
  all_goals simp
@[simp] theorem State.setLatch_heldRun (s : State) : s.setLatch.heldRun = s.heldRun := by
  unfold State.setLatch
  dsimp only
  repeat' split
  all_goals simp
@[simp] theorem State.setLatch_timer (s : State) : s.setLatch.timer = s.timer := by
  unfold State.setLatch
  dsimp only
  repeat' split
  all_goals simp
@[simp] theorem State.setLatch_engine (s : State) : s.setLatch.engine = s.engine := by
  unfold State.setLatch
  dsimp only
  repeat' split
  all_goals simp
@[simp] theorem State.setLatch_tables (s : State) : s.setLatch.tables = s.tables := by
  unfold State.setLatch
  dsimp only
  repeat' split
  all_goals simp
@[simp] theorem State.setLatch_journal (s : State) : s.setLatch.journal = s.journal := by
  unfold State.setLatch
  dsimp only
  repeat' split
  all_goals simp
@[simp] theorem State.setLatch_values (s : State) : s.setLatch.values = s.values := by
  unfold State.setLatch
  dsimp only
  repeat' split
  all_goals simp
@[simp] theorem State.setLatch_wire (s : State) : s.setLatch.wire = s.wire := by
  unfold State.setLatch
  dsimp only
  repeat' split
  all_goals simp
@[simp] theorem State.setLatch_pending (s : State) : s.setLatch.pending = s.pending := by
  unfold State.setLatch
  dsimp only
  repeat' split
  all_goals simp

/-! ## drainTest -/

@[simp] theorem State.drainTest_now (s : State) : s.drainTest.now = s.now := by
  unfold State.drainTest
  repeat' split
  all_goals simp
@[simp] theorem State.drainTest_heldRun (s : State) : s.drainTest.heldRun = s.heldRun := by
  unfold State.drainTest
  repeat' split
  all_goals simp
@[simp] theorem State.drainTest_timer (s : State) : s.drainTest.timer = s.timer := by
  unfold State.drainTest
  repeat' split
  all_goals simp
@[simp] theorem State.drainTest_engine (s : State) : s.drainTest.engine = s.engine := by
  unfold State.drainTest
  repeat' split
  all_goals simp
@[simp] theorem State.drainTest_tables (s : State) : s.drainTest.tables = s.tables := by
  unfold State.drainTest
  repeat' split
  all_goals simp
@[simp] theorem State.drainTest_journal (s : State) : s.drainTest.journal = s.journal := by
  unfold State.drainTest
  repeat' split
  all_goals simp
@[simp] theorem State.drainTest_values (s : State) : s.drainTest.values = s.values := by
  unfold State.drainTest
  repeat' split
  all_goals simp
@[simp] theorem State.drainTest_wire (s : State) : s.drainTest.wire = s.wire := by
  unfold State.drainTest
  repeat' split
  all_goals simp
@[simp] theorem State.drainTest_pending (s : State) : s.drainTest.pending = s.pending := by
  unfold State.drainTest
  repeat' split
  all_goals simp

/-! ## failHeldCycle -/

@[simp] theorem State.failHeldCycle_now (s : State) : s.failHeldCycle.now = s.now := by
  unfold State.failHeldCycle
  repeat' split
  all_goals simp
@[simp] theorem State.failHeldCycle_staging (s : State) : s.failHeldCycle.staging = s.staging := by
  unfold State.failHeldCycle
  repeat' split
  all_goals simp
@[simp] theorem State.failHeldCycle_heldRun (s : State) : s.failHeldCycle.heldRun = s.heldRun := by
  unfold State.failHeldCycle
  repeat' split
  all_goals simp
@[simp] theorem State.failHeldCycle_timer (s : State) : s.failHeldCycle.timer = s.timer := by
  unfold State.failHeldCycle
  repeat' split
  all_goals simp
@[simp] theorem State.failHeldCycle_engine (s : State) : s.failHeldCycle.engine = s.engine := by
  unfold State.failHeldCycle
  repeat' split
  all_goals simp
@[simp] theorem State.failHeldCycle_tables (s : State) : s.failHeldCycle.tables = s.tables := by
  unfold State.failHeldCycle
  repeat' split
  all_goals simp
@[simp] theorem State.failHeldCycle_journal (s : State) : s.failHeldCycle.journal = s.journal := by
  unfold State.failHeldCycle
  repeat' split
  all_goals simp
@[simp] theorem State.failHeldCycle_pool (s : State) : s.failHeldCycle.pool = s.pool := by
  unfold State.failHeldCycle
  repeat' split
  all_goals simp
@[simp] theorem State.failHeldCycle_link (s : State) : s.failHeldCycle.link = s.link := by
  unfold State.failHeldCycle
  repeat' split
  all_goals simp
@[simp] theorem State.failHeldCycle_ctl (s : State) : s.failHeldCycle.ctl = s.ctl := by
  unfold State.failHeldCycle
  repeat' split
  all_goals simp
@[simp] theorem State.failHeldCycle_values (s : State) : s.failHeldCycle.values = s.values := by
  unfold State.failHeldCycle
  repeat' split
  all_goals simp
@[simp] theorem State.failHeldCycle_wire (s : State) : s.failHeldCycle.wire = s.wire := by
  unfold State.failHeldCycle
  repeat' split
  all_goals simp
@[simp] theorem State.failHeldCycle_pending (s : State) : s.failHeldCycle.pending = s.pending := by
  unfold State.failHeldCycle
  repeat' split
  all_goals simp

/-! ## enterFault -/

@[simp] theorem State.enterFault_now (s : State) : s.enterFault.now = s.now := by
  simp [State.enterFault]
@[simp] theorem State.enterFault_values (s : State) : s.enterFault.values = s.values := by
  simp [State.enterFault]
@[simp] theorem State.enterFault_pending (s : State) : s.enterFault.pending = s.pending := by
  simp [State.enterFault]

/-! ## presentRead -/

@[simp] theorem State.presentRead_now (s : State) (c : Cycle) : (s.presentRead c).now = s.now := by
  unfold State.presentRead
  dsimp only
  repeat' split
  all_goals simp
@[simp] theorem State.presentRead_staging (s : State) (c : Cycle) : (s.presentRead c).staging = s.staging := by
  unfold State.presentRead
  dsimp only
  repeat' split
  all_goals simp
@[simp] theorem State.presentRead_timer (s : State) (c : Cycle) : (s.presentRead c).timer = s.timer := by
  unfold State.presentRead
  dsimp only
  repeat' split
  all_goals simp
@[simp] theorem State.presentRead_engine (s : State) (c : Cycle) : (s.presentRead c).engine = s.engine := by
  unfold State.presentRead
  dsimp only
  repeat' split
  all_goals simp
@[simp] theorem State.presentRead_tables (s : State) (c : Cycle) : (s.presentRead c).tables = s.tables := by
  unfold State.presentRead
  dsimp only
  repeat' split
  all_goals simp
@[simp] theorem State.presentRead_journal (s : State) (c : Cycle) : (s.presentRead c).journal = s.journal := by
  unfold State.presentRead
  dsimp only
  repeat' split
  all_goals simp
@[simp] theorem State.presentRead_pool (s : State) (c : Cycle) : (s.presentRead c).pool = s.pool := by
  unfold State.presentRead
  dsimp only
  repeat' split
  all_goals simp
@[simp] theorem State.presentRead_ctl (s : State) (c : Cycle) : (s.presentRead c).ctl = s.ctl := by
  unfold State.presentRead
  dsimp only
  repeat' split
  all_goals simp
@[simp] theorem State.presentRead_values (s : State) (c : Cycle) : (s.presentRead c).values = s.values := by
  unfold State.presentRead
  dsimp only
  repeat' split
  all_goals simp
@[simp] theorem State.presentRead_pending (s : State) (c : Cycle) : (s.presentRead c).pending = s.pending := by
  unfold State.presentRead
  dsimp only
  repeat' split
  all_goals simp

/-! ## checkWrite -/

@[simp] theorem State.checkWrite_now (s : State) (c : Cycle) : (s.checkWrite c).now = s.now := by
  unfold State.checkWrite
  repeat' split
  all_goals simp
@[simp] theorem State.checkWrite_heldRun (s : State) (c : Cycle) : (s.checkWrite c).heldRun = s.heldRun := by
  unfold State.checkWrite
  repeat' split
  all_goals simp
@[simp] theorem State.checkWrite_engine (s : State) (c : Cycle) : (s.checkWrite c).engine = s.engine := by
  unfold State.checkWrite
  repeat' split
  all_goals simp
@[simp] theorem State.checkWrite_tables (s : State) (c : Cycle) : (s.checkWrite c).tables = s.tables := by
  unfold State.checkWrite
  repeat' split
  all_goals simp
@[simp] theorem State.checkWrite_journal (s : State) (c : Cycle) : (s.checkWrite c).journal = s.journal := by
  unfold State.checkWrite
  repeat' split
  all_goals simp
@[simp] theorem State.checkWrite_pool (s : State) (c : Cycle) : (s.checkWrite c).pool = s.pool := by
  unfold State.checkWrite
  repeat' split
  all_goals simp
@[simp] theorem State.checkWrite_link (s : State) (c : Cycle) : (s.checkWrite c).link = s.link := by
  unfold State.checkWrite
  repeat' split
  all_goals simp
@[simp] theorem State.checkWrite_ctl (s : State) (c : Cycle) : (s.checkWrite c).ctl = s.ctl := by
  unfold State.checkWrite
  repeat' split
  all_goals simp
@[simp] theorem State.checkWrite_values (s : State) (c : Cycle) : (s.checkWrite c).values = s.values := by
  unfold State.checkWrite
  repeat' split
  all_goals simp
@[simp] theorem State.checkWrite_wire (s : State) (c : Cycle) : (s.checkWrite c).wire = s.wire := by
  unfold State.checkWrite
  repeat' split
  all_goals simp
@[simp] theorem State.checkWrite_pending (s : State) (c : Cycle) : (s.checkWrite c).pending = s.pending := by
  unfold State.checkWrite
  repeat' split
  all_goals simp

/-! ## applyChecks -/

@[simp] theorem State.applyChecks_now (s : State) : s.applyChecks.now = s.now := by
  unfold State.applyChecks
  repeat' split
  all_goals simp
@[simp] theorem State.applyChecks_engine (s : State) : s.applyChecks.engine = s.engine := by
  unfold State.applyChecks
  repeat' split
  all_goals simp
@[simp] theorem State.applyChecks_tables (s : State) : s.applyChecks.tables = s.tables := by
  unfold State.applyChecks
  repeat' split
  all_goals simp
@[simp] theorem State.applyChecks_journal (s : State) : s.applyChecks.journal = s.journal := by
  unfold State.applyChecks
  repeat' split
  all_goals simp
@[simp] theorem State.applyChecks_pool (s : State) : s.applyChecks.pool = s.pool := by
  unfold State.applyChecks
  repeat' split
  all_goals simp
@[simp] theorem State.applyChecks_ctl (s : State) : s.applyChecks.ctl = s.ctl := by
  unfold State.applyChecks
  repeat' split
  all_goals simp
@[simp] theorem State.applyChecks_values (s : State) : s.applyChecks.values = s.values := by
  unfold State.applyChecks
  repeat' split
  all_goals simp
@[simp] theorem State.applyChecks_pending (s : State) : s.applyChecks.pending = s.pending := by
  unfold State.applyChecks
  repeat' split
  all_goals simp

/-! ## recheckHeld -/

@[simp] theorem State.recheckHeld_now (s : State) : s.recheckHeld.now = s.now := by
  unfold State.recheckHeld
  repeat' split
  all_goals simp
@[simp] theorem State.recheckHeld_engine (s : State) : s.recheckHeld.engine = s.engine := by
  unfold State.recheckHeld
  repeat' split
  all_goals simp
@[simp] theorem State.recheckHeld_tables (s : State) : s.recheckHeld.tables = s.tables := by
  unfold State.recheckHeld
  repeat' split
  all_goals simp
@[simp] theorem State.recheckHeld_journal (s : State) : s.recheckHeld.journal = s.journal := by
  unfold State.recheckHeld
  repeat' split
  all_goals simp
@[simp] theorem State.recheckHeld_pool (s : State) : s.recheckHeld.pool = s.pool := by
  unfold State.recheckHeld
  repeat' split
  all_goals simp
@[simp] theorem State.recheckHeld_ctl (s : State) : s.recheckHeld.ctl = s.ctl := by
  unfold State.recheckHeld
  repeat' split
  all_goals simp
@[simp] theorem State.recheckHeld_values (s : State) : s.recheckHeld.values = s.values := by
  unfold State.recheckHeld
  repeat' split
  all_goals simp
@[simp] theorem State.recheckHeld_pending (s : State) : s.recheckHeld.pending = s.pending := by
  unfold State.recheckHeld
  repeat' split
  all_goals simp

/-! ## handOver -/

@[simp] theorem State.handOver_now (s : State) (fetched : List Byte) : (s.handOver fetched).now = s.now := by
  unfold State.handOver
  repeat' split
  all_goals simp
@[simp] theorem State.handOver_staging (s : State) (fetched : List Byte) :
    (s.handOver fetched).staging = s.staging := by
  unfold State.handOver
  repeat' split
  all_goals simp
@[simp] theorem State.handOver_heldRun (s : State) (fetched : List Byte) :
    (s.handOver fetched).heldRun = s.heldRun := by
  unfold State.handOver
  repeat' split
  all_goals simp
@[simp] theorem State.handOver_timer (s : State) (fetched : List Byte) : (s.handOver fetched).timer = s.timer := by
  unfold State.handOver
  repeat' split
  all_goals simp
@[simp] theorem State.handOver_engine (s : State) (fetched : List Byte) : (s.handOver fetched).engine = s.engine := by
  unfold State.handOver
  repeat' split
  all_goals simp
@[simp] theorem State.handOver_tables (s : State) (fetched : List Byte) : (s.handOver fetched).tables = s.tables := by
  unfold State.handOver
  repeat' split
  all_goals simp
@[simp] theorem State.handOver_journal (s : State) (fetched : List Byte) :
    (s.handOver fetched).journal = s.journal := by
  unfold State.handOver
  repeat' split
  all_goals simp
@[simp] theorem State.handOver_pool (s : State) (fetched : List Byte) : (s.handOver fetched).pool = s.pool := by
  unfold State.handOver
  repeat' split
  all_goals simp
@[simp] theorem State.handOver_link (s : State) (fetched : List Byte) : (s.handOver fetched).link = s.link := by
  unfold State.handOver
  repeat' split
  all_goals simp
@[simp] theorem State.handOver_ctl (s : State) (fetched : List Byte) : (s.handOver fetched).ctl = s.ctl := by
  unfold State.handOver
  repeat' split
  all_goals simp
@[simp] theorem State.handOver_values (s : State) (fetched : List Byte) : (s.handOver fetched).values = s.values := by
  unfold State.handOver
  repeat' split
  all_goals simp
@[simp] theorem State.handOver_wire (s : State) (fetched : List Byte) : (s.handOver fetched).wire = s.wire := by
  unfold State.handOver
  repeat' split
  all_goals simp
@[simp] theorem State.handOver_pending (s : State) (fetched : List Byte) :
    (s.handOver fetched).pending = s.pending := by
  unfold State.handOver
  repeat' split
  all_goals simp

/-! ## endHeld -/

@[simp] theorem State.endHeld_now (s : State) (cond : CycleCond) : (s.endHeld cond).now = s.now := by
  unfold State.endHeld
  repeat' split
  all_goals simp
@[simp] theorem State.endHeld_port (s : State) (cond : CycleCond) : (s.endHeld cond).port = s.port := by
  unfold State.endHeld
  repeat' split
  all_goals simp
@[simp] theorem State.endHeld_timer (s : State) (cond : CycleCond) : (s.endHeld cond).timer = s.timer := by
  unfold State.endHeld
  repeat' split
  all_goals simp
@[simp] theorem State.endHeld_engine (s : State) (cond : CycleCond) : (s.endHeld cond).engine = s.engine := by
  unfold State.endHeld
  repeat' split
  all_goals simp
@[simp] theorem State.endHeld_tables (s : State) (cond : CycleCond) : (s.endHeld cond).tables = s.tables := by
  unfold State.endHeld
  repeat' split
  all_goals simp
@[simp] theorem State.endHeld_journal (s : State) (cond : CycleCond) : (s.endHeld cond).journal = s.journal := by
  unfold State.endHeld
  repeat' split
  all_goals simp
@[simp] theorem State.endHeld_pool (s : State) (cond : CycleCond) : (s.endHeld cond).pool = s.pool := by
  unfold State.endHeld
  repeat' split
  all_goals simp
@[simp] theorem State.endHeld_ctl (s : State) (cond : CycleCond) : (s.endHeld cond).ctl = s.ctl := by
  unfold State.endHeld
  repeat' split
  all_goals simp
@[simp] theorem State.endHeld_values (s : State) (cond : CycleCond) : (s.endHeld cond).values = s.values := by
  unfold State.endHeld
  repeat' split
  all_goals simp
@[simp] theorem State.endHeld_wire (s : State) (cond : CycleCond) : (s.endHeld cond).wire = s.wire := by
  unfold State.endHeld
  repeat' split
  all_goals simp
@[simp] theorem State.endHeld_pending (s : State) (cond : CycleCond) : (s.endHeld cond).pending = s.pending := by
  unfold State.endHeld
  repeat' split
  all_goals simp

/-! ## returnTarget -/

@[simp] theorem State.returnTarget_now (s : State) (t : Nat) : (s.returnTarget t).now = s.now := by
  unfold State.returnTarget
  simp
@[simp] theorem State.returnTarget_port (s : State) (t : Nat) : (s.returnTarget t).port = s.port := by
  unfold State.returnTarget
  simp
@[simp] theorem State.returnTarget_staging (s : State) (t : Nat) : (s.returnTarget t).staging = s.staging := by
  unfold State.returnTarget
  simp
@[simp] theorem State.returnTarget_heldRun (s : State) (t : Nat) : (s.returnTarget t).heldRun = s.heldRun := by
  unfold State.returnTarget
  simp
@[simp] theorem State.returnTarget_timer (s : State) (t : Nat) : (s.returnTarget t).timer = s.timer := by
  unfold State.returnTarget
  simp
@[simp] theorem State.returnTarget_engine (s : State) (t : Nat) : (s.returnTarget t).engine = s.engine := by
  unfold State.returnTarget
  simp
@[simp] theorem State.returnTarget_journal (s : State) (t : Nat) : (s.returnTarget t).journal = s.journal := by
  unfold State.returnTarget
  simp
@[simp] theorem State.returnTarget_link (s : State) (t : Nat) : (s.returnTarget t).link = s.link := by
  unfold State.returnTarget
  simp
@[simp] theorem State.returnTarget_ctl (s : State) (t : Nat) : (s.returnTarget t).ctl = s.ctl := by
  unfold State.returnTarget
  simp
@[simp] theorem State.returnTarget_values (s : State) (t : Nat) : (s.returnTarget t).values = s.values := by
  unfold State.returnTarget
  simp
@[simp] theorem State.returnTarget_wire (s : State) (t : Nat) : (s.returnTarget t).wire = s.wire := by
  unfold State.returnTarget
  simp
@[simp] theorem State.returnTarget_pending (s : State) (t : Nat) : (s.returnTarget t).pending = s.pending := by
  unfold State.returnTarget
  simp

/-! ## abandonJob -/

@[simp] theorem State.abandonJob_now (s : State) : s.abandonJob.now = s.now := by
  unfold State.abandonJob
  dsimp only
  repeat' split
  all_goals simp
@[simp] theorem State.abandonJob_port (s : State) : s.abandonJob.port = s.port := by
  unfold State.abandonJob
  dsimp only
  repeat' split
  all_goals simp
@[simp] theorem State.abandonJob_heldRun (s : State) : s.abandonJob.heldRun = s.heldRun := by
  unfold State.abandonJob
  dsimp only
  repeat' split
  all_goals simp
@[simp] theorem State.abandonJob_journal (s : State) : s.abandonJob.journal = s.journal := by
  unfold State.abandonJob
  dsimp only
  repeat' split
  all_goals simp
@[simp] theorem State.abandonJob_link (s : State) : s.abandonJob.link = s.link := by
  unfold State.abandonJob
  dsimp only
  repeat' split
  all_goals simp
@[simp] theorem State.abandonJob_ctl (s : State) : s.abandonJob.ctl = s.ctl := by
  unfold State.abandonJob
  dsimp only
  repeat' split
  all_goals simp
@[simp] theorem State.abandonJob_values (s : State) : s.abandonJob.values = s.values := by
  unfold State.abandonJob
  dsimp only
  repeat' split
  all_goals simp
@[simp] theorem State.abandonJob_wire (s : State) : s.abandonJob.wire = s.wire := by
  unfold State.abandonJob
  dsimp only
  repeat' split
  all_goals simp
@[simp] theorem State.abandonJob_pending (s : State) : s.abandonJob.pending = s.pending := by
  unfold State.abandonJob
  dsimp only
  repeat' split
  all_goals simp

/-! ## readSource -/

@[simp] theorem State.readSource_now (s : State) (j : Job) : (s.readSource j).now = s.now := by
  unfold State.readSource
  simp
@[simp] theorem State.readSource_port (s : State) (j : Job) : (s.readSource j).port = s.port := by
  unfold State.readSource
  simp
@[simp] theorem State.readSource_staging (s : State) (j : Job) : (s.readSource j).staging = s.staging := by
  unfold State.readSource
  simp
@[simp] theorem State.readSource_heldRun (s : State) (j : Job) : (s.readSource j).heldRun = s.heldRun := by
  unfold State.readSource
  simp
@[simp] theorem State.readSource_timer (s : State) (j : Job) : (s.readSource j).timer = s.timer := by
  unfold State.readSource
  simp
@[simp] theorem State.readSource_tables (s : State) (j : Job) : (s.readSource j).tables = s.tables := by
  unfold State.readSource
  simp
@[simp] theorem State.readSource_journal (s : State) (j : Job) : (s.readSource j).journal = s.journal := by
  unfold State.readSource
  simp
@[simp] theorem State.readSource_pool (s : State) (j : Job) : (s.readSource j).pool = s.pool := by
  unfold State.readSource
  simp
@[simp] theorem State.readSource_ctl (s : State) (j : Job) : (s.readSource j).ctl = s.ctl := by
  unfold State.readSource
  simp
@[simp] theorem State.readSource_values (s : State) (j : Job) : (s.readSource j).values = s.values := by
  unfold State.readSource
  simp
@[simp] theorem State.readSource_wire (s : State) (j : Job) : (s.readSource j).wire = s.wire := by
  unfold State.readSource
  simp
@[simp] theorem State.readSource_pending (s : State) (j : Job) : (s.readSource j).pending = s.pending := by
  unfold State.readSource
  simp

/-! ## requestTarget -/

@[simp] theorem State.requestTarget_now (s : State) : s.requestTarget.now = s.now := by
  unfold State.requestTarget
  repeat' split
  all_goals simp
@[simp] theorem State.requestTarget_port (s : State) : s.requestTarget.port = s.port := by
  unfold State.requestTarget
  repeat' split
  all_goals simp
@[simp] theorem State.requestTarget_heldRun (s : State) : s.requestTarget.heldRun = s.heldRun := by
  unfold State.requestTarget
  repeat' split
  all_goals simp
@[simp] theorem State.requestTarget_journal (s : State) : s.requestTarget.journal = s.journal := by
  unfold State.requestTarget
  repeat' split
  all_goals simp
@[simp] theorem State.requestTarget_ctl (s : State) : s.requestTarget.ctl = s.ctl := by
  unfold State.requestTarget
  repeat' split
  all_goals simp
@[simp] theorem State.requestTarget_values (s : State) : s.requestTarget.values = s.values := by
  unfold State.requestTarget
  repeat' split
  all_goals simp
@[simp] theorem State.requestTarget_wire (s : State) : s.requestTarget.wire = s.wire := by
  unfold State.requestTarget
  repeat' split
  all_goals simp
@[simp] theorem State.requestTarget_pending (s : State) : s.requestTarget.pending = s.pending := by
  unfold State.requestTarget
  repeat' split
  all_goals simp

/-! ## allocatePhase -/

@[simp] theorem State.allocatePhase_now (s : State) (j : Job) : (s.allocatePhase j).now = s.now := by
  unfold State.allocatePhase
  simp
@[simp] theorem State.allocatePhase_port (s : State) (j : Job) : (s.allocatePhase j).port = s.port := by
  unfold State.allocatePhase
  simp
@[simp] theorem State.allocatePhase_heldRun (s : State) (j : Job) : (s.allocatePhase j).heldRun = s.heldRun := by
  unfold State.allocatePhase
  simp
@[simp] theorem State.allocatePhase_journal (s : State) (j : Job) : (s.allocatePhase j).journal = s.journal := by
  unfold State.allocatePhase
  simp
@[simp] theorem State.allocatePhase_ctl (s : State) (j : Job) : (s.allocatePhase j).ctl = s.ctl := by
  unfold State.allocatePhase
  simp
@[simp] theorem State.allocatePhase_values (s : State) (j : Job) : (s.allocatePhase j).values = s.values := by
  unfold State.allocatePhase
  simp
@[simp] theorem State.allocatePhase_wire (s : State) (j : Job) : (s.allocatePhase j).wire = s.wire := by
  unfold State.allocatePhase
  simp
@[simp] theorem State.allocatePhase_pending (s : State) (j : Job) : (s.allocatePhase j).pending = s.pending := by
  unfold State.allocatePhase
  simp

/-! ## beginDecide -/

@[simp] theorem State.beginDecide_now (s : State) (j : Job) : (s.beginDecide j).now = s.now := by
  unfold State.beginDecide
  repeat' split
  all_goals simp
@[simp] theorem State.beginDecide_port (s : State) (j : Job) : (s.beginDecide j).port = s.port := by
  unfold State.beginDecide
  repeat' split
  all_goals simp
@[simp] theorem State.beginDecide_heldRun (s : State) (j : Job) : (s.beginDecide j).heldRun = s.heldRun := by
  unfold State.beginDecide
  repeat' split
  all_goals simp
@[simp] theorem State.beginDecide_journal (s : State) (j : Job) : (s.beginDecide j).journal = s.journal := by
  unfold State.beginDecide
  repeat' split
  all_goals simp
@[simp] theorem State.beginDecide_ctl (s : State) (j : Job) : (s.beginDecide j).ctl = s.ctl := by
  unfold State.beginDecide
  repeat' split
  all_goals simp
@[simp] theorem State.beginDecide_values (s : State) (j : Job) : (s.beginDecide j).values = s.values := by
  unfold State.beginDecide
  repeat' split
  all_goals simp
@[simp] theorem State.beginDecide_wire (s : State) (j : Job) : (s.beginDecide j).wire = s.wire := by
  unfold State.beginDecide
  repeat' split
  all_goals simp
@[simp] theorem State.beginDecide_pending (s : State) (j : Job) : (s.beginDecide j).pending = s.pending := by
  unfold State.beginDecide
  repeat' split
  all_goals simp

/-! ## takeJob -/

@[simp] theorem State.takeJob_now (s : State) : s.takeJob.now = s.now := by
  unfold State.takeJob
  repeat' split
  all_goals simp
@[simp] theorem State.takeJob_port (s : State) : s.takeJob.port = s.port := by
  unfold State.takeJob
  repeat' split
  all_goals simp
@[simp] theorem State.takeJob_heldRun (s : State) : s.takeJob.heldRun = s.heldRun := by
  unfold State.takeJob
  repeat' split
  all_goals simp
@[simp] theorem State.takeJob_journal (s : State) : s.takeJob.journal = s.journal := by
  unfold State.takeJob
  repeat' split
  all_goals simp
@[simp] theorem State.takeJob_ctl (s : State) : s.takeJob.ctl = s.ctl := by
  unfold State.takeJob
  repeat' split
  all_goals simp
@[simp] theorem State.takeJob_values (s : State) : s.takeJob.values = s.values := by
  unfold State.takeJob
  repeat' split
  all_goals simp
@[simp] theorem State.takeJob_wire (s : State) : s.takeJob.wire = s.wire := by
  unfold State.takeJob
  repeat' split
  all_goals simp
@[simp] theorem State.takeJob_pending (s : State) : s.takeJob.pending = s.pending := by
  unfold State.takeJob
  repeat' split
  all_goals simp

/-! ## endJob -/

@[simp] theorem State.endJob_now (s : State) : s.endJob.now = s.now := by
  unfold State.endJob
  simp
@[simp] theorem State.endJob_heldRun (s : State) : s.endJob.heldRun = s.heldRun := by
  unfold State.endJob
  simp
@[simp] theorem State.endJob_journal (s : State) : s.endJob.journal = s.journal := by
  unfold State.endJob
  simp
@[simp] theorem State.endJob_values (s : State) : s.endJob.values = s.values := by
  unfold State.endJob
  simp
@[simp] theorem State.endJob_wire (s : State) : s.endJob.wire = s.wire := by
  unfold State.endJob
  simp
@[simp] theorem State.endJob_pending (s : State) : s.endJob.pending = s.pending := by
  unfold State.endJob
  simp

/-! ## markRetirePending -/

@[simp] theorem State.markRetirePending_now (s : State) (p : Nat) : (s.markRetirePending p).now = s.now := by
  unfold State.markRetirePending
  simp
@[simp] theorem State.markRetirePending_port (s : State) (p : Nat) : (s.markRetirePending p).port = s.port := by
  unfold State.markRetirePending
  simp
@[simp] theorem State.markRetirePending_staging (s : State) (p : Nat) :
    (s.markRetirePending p).staging = s.staging := by
  unfold State.markRetirePending
  simp
@[simp] theorem State.markRetirePending_heldRun (s : State) (p : Nat) :
    (s.markRetirePending p).heldRun = s.heldRun := by
  unfold State.markRetirePending
  simp
@[simp] theorem State.markRetirePending_timer (s : State) (p : Nat) : (s.markRetirePending p).timer = s.timer := by
  unfold State.markRetirePending
  simp
@[simp] theorem State.markRetirePending_engine (s : State) (p : Nat) : (s.markRetirePending p).engine = s.engine := by
  unfold State.markRetirePending
  simp
@[simp] theorem State.markRetirePending_journal (s : State) (p : Nat) :
    (s.markRetirePending p).journal = s.journal := by
  unfold State.markRetirePending
  simp
@[simp] theorem State.markRetirePending_pool (s : State) (p : Nat) : (s.markRetirePending p).pool = s.pool := by
  unfold State.markRetirePending
  simp
@[simp] theorem State.markRetirePending_link (s : State) (p : Nat) : (s.markRetirePending p).link = s.link := by
  unfold State.markRetirePending
  simp
@[simp] theorem State.markRetirePending_ctl (s : State) (p : Nat) : (s.markRetirePending p).ctl = s.ctl := by
  unfold State.markRetirePending
  simp
@[simp] theorem State.markRetirePending_values (s : State) (p : Nat) : (s.markRetirePending p).values = s.values := by
  unfold State.markRetirePending
  simp
@[simp] theorem State.markRetirePending_wire (s : State) (p : Nat) : (s.markRetirePending p).wire = s.wire := by
  unfold State.markRetirePending
  simp
@[simp] theorem State.markRetirePending_pending (s : State) (p : Nat) :
    (s.markRetirePending p).pending = s.pending := by
  unfold State.markRetirePending
  simp

/-! ## clearRetirePending -/

@[simp] theorem State.clearRetirePending_now (s : State) (p : Nat) : (s.clearRetirePending p).now = s.now := by
  unfold State.clearRetirePending
  simp
@[simp] theorem State.clearRetirePending_port (s : State) (p : Nat) : (s.clearRetirePending p).port = s.port := by
  unfold State.clearRetirePending
  simp
@[simp] theorem State.clearRetirePending_staging (s : State) (p : Nat) :
    (s.clearRetirePending p).staging = s.staging := by
  unfold State.clearRetirePending
  simp
@[simp] theorem State.clearRetirePending_heldRun (s : State) (p : Nat) :
    (s.clearRetirePending p).heldRun = s.heldRun := by
  unfold State.clearRetirePending
  simp
@[simp] theorem State.clearRetirePending_timer (s : State) (p : Nat) : (s.clearRetirePending p).timer = s.timer := by
  unfold State.clearRetirePending
  simp
@[simp] theorem State.clearRetirePending_engine (s : State) (p : Nat) :
    (s.clearRetirePending p).engine = s.engine := by
  unfold State.clearRetirePending
  simp
@[simp] theorem State.clearRetirePending_journal (s : State) (p : Nat) :
    (s.clearRetirePending p).journal = s.journal := by
  unfold State.clearRetirePending
  simp
@[simp] theorem State.clearRetirePending_pool (s : State) (p : Nat) : (s.clearRetirePending p).pool = s.pool := by
  unfold State.clearRetirePending
  simp
@[simp] theorem State.clearRetirePending_link (s : State) (p : Nat) : (s.clearRetirePending p).link = s.link := by
  unfold State.clearRetirePending
  simp
@[simp] theorem State.clearRetirePending_ctl (s : State) (p : Nat) : (s.clearRetirePending p).ctl = s.ctl := by
  unfold State.clearRetirePending
  simp
@[simp] theorem State.clearRetirePending_values (s : State) (p : Nat) :
    (s.clearRetirePending p).values = s.values := by
  unfold State.clearRetirePending
  simp
@[simp] theorem State.clearRetirePending_wire (s : State) (p : Nat) : (s.clearRetirePending p).wire = s.wire := by
  unfold State.clearRetirePending
  simp
@[simp] theorem State.clearRetirePending_pending (s : State) (p : Nat) :
    (s.clearRetirePending p).pending = s.pending := by
  unfold State.clearRetirePending
  simp

/-! ## completeRetire -/

@[simp] theorem State.completeRetire_now (s : State) (p : Nat) : (s.completeRetire p).now = s.now := by
  unfold State.completeRetire
  dsimp only
  repeat' split
  all_goals simp
@[simp] theorem State.completeRetire_heldRun (s : State) (p : Nat) : (s.completeRetire p).heldRun = s.heldRun := by
  unfold State.completeRetire
  dsimp only
  repeat' split
  all_goals simp
@[simp] theorem State.completeRetire_timer (s : State) (p : Nat) : (s.completeRetire p).timer = s.timer := by
  unfold State.completeRetire
  dsimp only
  repeat' split
  all_goals simp
@[simp] theorem State.completeRetire_engine (s : State) (p : Nat) : (s.completeRetire p).engine = s.engine := by
  unfold State.completeRetire
  dsimp only
  repeat' split
  all_goals simp
@[simp] theorem State.completeRetire_journal (s : State) (p : Nat) : (s.completeRetire p).journal = s.journal := by
  unfold State.completeRetire
  dsimp only
  repeat' split
  all_goals simp
@[simp] theorem State.completeRetire_values (s : State) (p : Nat) : (s.completeRetire p).values = s.values := by
  unfold State.completeRetire
  dsimp only
  repeat' split
  all_goals simp
@[simp] theorem State.completeRetire_wire (s : State) (p : Nat) : (s.completeRetire p).wire = s.wire := by
  unfold State.completeRetire
  dsimp only
  repeat' split
  all_goals simp
@[simp] theorem State.completeRetire_pending (s : State) (p : Nat) : (s.completeRetire p).pending = s.pending := by
  unfold State.completeRetire
  dsimp only
  repeat' split
  all_goals simp

/-! ## completeRemap -/

@[simp] theorem State.completeRemap_now (s : State) (l new old : Nat) (slots : List Nat) :
    (s.completeRemap l new old slots).now = s.now := by
  unfold State.completeRemap
  dsimp only
  simp
@[simp] theorem State.completeRemap_port (s : State) (l new old : Nat) (slots : List Nat) :
    (s.completeRemap l new old slots).port = s.port := by
  unfold State.completeRemap
  dsimp only
  simp
@[simp] theorem State.completeRemap_heldRun (s : State) (l new old : Nat) (slots : List Nat) :
    (s.completeRemap l new old slots).heldRun = s.heldRun := by
  unfold State.completeRemap
  dsimp only
  simp
@[simp] theorem State.completeRemap_timer (s : State) (l new old : Nat) (slots : List Nat) :
    (s.completeRemap l new old slots).timer = s.timer := by
  unfold State.completeRemap
  dsimp only
  simp
@[simp] theorem State.completeRemap_engine (s : State) (l new old : Nat) (slots : List Nat) :
    (s.completeRemap l new old slots).engine = s.engine := by
  unfold State.completeRemap
  dsimp only
  simp
@[simp] theorem State.completeRemap_journal (s : State) (l new old : Nat) (slots : List Nat) :
    (s.completeRemap l new old slots).journal = s.journal := by
  unfold State.completeRemap
  dsimp only
  simp
@[simp] theorem State.completeRemap_link (s : State) (l new old : Nat) (slots : List Nat) :
    (s.completeRemap l new old slots).link = s.link := by
  unfold State.completeRemap
  dsimp only
  simp
@[simp] theorem State.completeRemap_ctl (s : State) (l new old : Nat) (slots : List Nat) :
    (s.completeRemap l new old slots).ctl = s.ctl := by
  unfold State.completeRemap
  dsimp only
  simp
@[simp] theorem State.completeRemap_values (s : State) (l new old : Nat) (slots : List Nat) :
    (s.completeRemap l new old slots).values = s.values := by
  unfold State.completeRemap
  dsimp only
  simp
@[simp] theorem State.completeRemap_wire (s : State) (l new old : Nat) (slots : List Nat) :
    (s.completeRemap l new old slots).wire = s.wire := by
  unfold State.completeRemap
  dsimp only
  simp
@[simp] theorem State.completeRemap_pending (s : State) (l new old : Nat) (slots : List Nat) :
    (s.completeRemap l new old slots).pending = s.pending := by
  unfold State.completeRemap
  dsimp only
  simp

/-! ## spareErased -/

@[simp] theorem State.spareErased_now (s : State) (p : Nat) : (s.spareErased p).now = s.now := by
  unfold State.spareErased
  repeat' split
  all_goals simp
@[simp] theorem State.spareErased_port (s : State) (p : Nat) : (s.spareErased p).port = s.port := by
  unfold State.spareErased
  repeat' split
  all_goals simp
@[simp] theorem State.spareErased_staging (s : State) (p : Nat) : (s.spareErased p).staging = s.staging := by
  unfold State.spareErased
  repeat' split
  all_goals simp
@[simp] theorem State.spareErased_heldRun (s : State) (p : Nat) : (s.spareErased p).heldRun = s.heldRun := by
  unfold State.spareErased
  repeat' split
  all_goals simp
@[simp] theorem State.spareErased_timer (s : State) (p : Nat) : (s.spareErased p).timer = s.timer := by
  unfold State.spareErased
  repeat' split
  all_goals simp
@[simp] theorem State.spareErased_engine (s : State) (p : Nat) : (s.spareErased p).engine = s.engine := by
  unfold State.spareErased
  repeat' split
  all_goals simp
@[simp] theorem State.spareErased_journal (s : State) (p : Nat) : (s.spareErased p).journal = s.journal := by
  unfold State.spareErased
  repeat' split
  all_goals simp
@[simp] theorem State.spareErased_pool (s : State) (p : Nat) : (s.spareErased p).pool = s.pool := by
  unfold State.spareErased
  repeat' split
  all_goals simp
@[simp] theorem State.spareErased_link (s : State) (p : Nat) : (s.spareErased p).link = s.link := by
  unfold State.spareErased
  repeat' split
  all_goals simp
@[simp] theorem State.spareErased_ctl (s : State) (p : Nat) : (s.spareErased p).ctl = s.ctl := by
  unfold State.spareErased
  repeat' split
  all_goals simp
@[simp] theorem State.spareErased_values (s : State) (p : Nat) : (s.spareErased p).values = s.values := by
  unfold State.spareErased
  repeat' split
  all_goals simp
@[simp] theorem State.spareErased_wire (s : State) (p : Nat) : (s.spareErased p).wire = s.wire := by
  unfold State.spareErased
  repeat' split
  all_goals simp
@[simp] theorem State.spareErased_pending (s : State) (p : Nat) : (s.spareErased p).pending = s.pending := by
  unfold State.spareErased
  repeat' split
  all_goals simp

/-! ## install -/

@[simp] theorem State.install_now (s : State) (m : MountRecord) (r : Roles) (formatted openingFailed : Bool) :
    (s.install m r formatted openingFailed).now = s.now := by
  simp [State.install]
@[simp] theorem State.install_port (s : State) (m : MountRecord) (r : Roles) (formatted openingFailed : Bool) :
    (s.install m r formatted openingFailed).port = s.port := by
  simp [State.install]
@[simp] theorem State.install_staging (s : State) (m : MountRecord) (r : Roles) (formatted openingFailed : Bool) :
    (s.install m r formatted openingFailed).staging = s.staging := by
  simp [State.install]
@[simp] theorem State.install_heldRun (s : State) (m : MountRecord) (r : Roles) (formatted openingFailed : Bool) :
    (s.install m r formatted openingFailed).heldRun = s.heldRun := by
  simp [State.install]
@[simp] theorem State.install_timer (s : State) (m : MountRecord) (r : Roles) (formatted openingFailed : Bool) :
    (s.install m r formatted openingFailed).timer = s.timer := by
  simp [State.install]
@[simp] theorem State.install_engine (s : State) (m : MountRecord) (r : Roles) (formatted openingFailed : Bool) :
    (s.install m r formatted openingFailed).engine = s.engine := by
  simp [State.install]
@[simp] theorem State.install_values (s : State) (m : MountRecord) (r : Roles) (formatted openingFailed : Bool) :
    (s.install m r formatted openingFailed).values = s.values := by
  simp [State.install]
@[simp] theorem State.install_pending (s : State) (m : MountRecord) (r : Roles) (formatted openingFailed : Bool) :
    (s.install m r formatted openingFailed).pending = s.pending := by
  simp [State.install]

/-! ## requesterFailed -/

@[simp] theorem State.requesterFailed_now (s : State) (q : JournalRequest) : (s.requesterFailed q).now = s.now := by
  unfold State.requesterFailed
  dsimp only
  repeat' split
  all_goals simp
@[simp] theorem State.requesterFailed_heldRun (s : State) (q : JournalRequest) :
    (s.requesterFailed q).heldRun = s.heldRun := by
  unfold State.requesterFailed
  dsimp only
  repeat' split
  all_goals simp
@[simp] theorem State.requesterFailed_journal (s : State) (q : JournalRequest) :
    (s.requesterFailed q).journal = s.journal := by
  unfold State.requesterFailed
  dsimp only
  repeat' split
  all_goals simp
@[simp] theorem State.requesterFailed_values (s : State) (q : JournalRequest) :
    (s.requesterFailed q).values = s.values := by
  unfold State.requesterFailed
  dsimp only
  repeat' split
  all_goals simp
@[simp] theorem State.requesterFailed_wire (s : State) (q : JournalRequest) :
    (s.requesterFailed q).wire = s.wire := by
  unfold State.requesterFailed
  dsimp only
  repeat' split
  all_goals simp
@[simp] theorem State.requesterFailed_pending (s : State) (q : JournalRequest) :
    (s.requesterFailed q).pending = s.pending := by
  unfold State.requesterFailed
  dsimp only
  repeat' split
  all_goals simp

/-! ## failRequest -/

@[simp] theorem State.failRequest_now (s : State) : s.failRequest.now = s.now := by
  unfold State.failRequest
  repeat' split
  all_goals simp
@[simp] theorem State.failRequest_heldRun (s : State) : s.failRequest.heldRun = s.heldRun := by
  unfold State.failRequest
  repeat' split
  all_goals simp
@[simp] theorem State.failRequest_values (s : State) : s.failRequest.values = s.values := by
  unfold State.failRequest
  repeat' split
  all_goals simp
@[simp] theorem State.failRequest_wire (s : State) : s.failRequest.wire = s.wire := by
  unfold State.failRequest
  repeat' split
  all_goals simp
@[simp] theorem State.failRequest_pending (s : State) : s.failRequest.pending = s.pending := by
  unfold State.failRequest
  repeat' split
  all_goals simp

/-! ## journalOp -/

@[simp] theorem State.journalOp_now (s : State) (o : FlashOp) : (s.journalOp o).now = s.now := by
  unfold State.journalOp
  repeat' split
  all_goals simp
@[simp] theorem State.journalOp_port (s : State) (o : FlashOp) : (s.journalOp o).port = s.port := by
  unfold State.journalOp
  repeat' split
  all_goals simp
@[simp] theorem State.journalOp_staging (s : State) (o : FlashOp) : (s.journalOp o).staging = s.staging := by
  unfold State.journalOp
  repeat' split
  all_goals simp
@[simp] theorem State.journalOp_heldRun (s : State) (o : FlashOp) : (s.journalOp o).heldRun = s.heldRun := by
  unfold State.journalOp
  repeat' split
  all_goals simp
@[simp] theorem State.journalOp_timer (s : State) (o : FlashOp) : (s.journalOp o).timer = s.timer := by
  unfold State.journalOp
  repeat' split
  all_goals simp
@[simp] theorem State.journalOp_engine (s : State) (o : FlashOp) : (s.journalOp o).engine = s.engine := by
  unfold State.journalOp
  repeat' split
  all_goals simp
@[simp] theorem State.journalOp_tables (s : State) (o : FlashOp) : (s.journalOp o).tables = s.tables := by
  unfold State.journalOp
  repeat' split
  all_goals simp
@[simp] theorem State.journalOp_journal (s : State) (o : FlashOp) : (s.journalOp o).journal = s.journal := by
  unfold State.journalOp
  repeat' split
  all_goals simp
@[simp] theorem State.journalOp_pool (s : State) (o : FlashOp) : (s.journalOp o).pool = s.pool := by
  unfold State.journalOp
  repeat' split
  all_goals simp
@[simp] theorem State.journalOp_ctl (s : State) (o : FlashOp) : (s.journalOp o).ctl = s.ctl := by
  unfold State.journalOp
  repeat' split
  all_goals simp
@[simp] theorem State.journalOp_values (s : State) (o : FlashOp) : (s.journalOp o).values = s.values := by
  unfold State.journalOp
  repeat' split
  all_goals simp
@[simp] theorem State.journalOp_pending (s : State) (o : FlashOp) : (s.journalOp o).pending = s.pending := by
  unfold State.journalOp
  repeat' split
  all_goals simp

/-! ## appendEntry -/

@[simp] theorem State.appendEntry_now (s : State) : s.appendEntry.now = s.now := by
  unfold State.appendEntry
  repeat' split
  all_goals simp
@[simp] theorem State.appendEntry_port (s : State) : s.appendEntry.port = s.port := by
  unfold State.appendEntry
  repeat' split
  all_goals simp
@[simp] theorem State.appendEntry_staging (s : State) : s.appendEntry.staging = s.staging := by
  unfold State.appendEntry
  repeat' split
  all_goals simp
@[simp] theorem State.appendEntry_heldRun (s : State) : s.appendEntry.heldRun = s.heldRun := by
  unfold State.appendEntry
  repeat' split
  all_goals simp
@[simp] theorem State.appendEntry_timer (s : State) : s.appendEntry.timer = s.timer := by
  unfold State.appendEntry
  repeat' split
  all_goals simp
@[simp] theorem State.appendEntry_engine (s : State) : s.appendEntry.engine = s.engine := by
  unfold State.appendEntry
  repeat' split
  all_goals simp
@[simp] theorem State.appendEntry_tables (s : State) : s.appendEntry.tables = s.tables := by
  unfold State.appendEntry
  repeat' split
  all_goals simp
@[simp] theorem State.appendEntry_pool (s : State) : s.appendEntry.pool = s.pool := by
  unfold State.appendEntry
  repeat' split
  all_goals simp
@[simp] theorem State.appendEntry_ctl (s : State) : s.appendEntry.ctl = s.ctl := by
  unfold State.appendEntry
  repeat' split
  all_goals simp
@[simp] theorem State.appendEntry_values (s : State) : s.appendEntry.values = s.values := by
  unfold State.appendEntry
  repeat' split
  all_goals simp
@[simp] theorem State.appendEntry_pending (s : State) : s.appendEntry.pending = s.pending := by
  unfold State.appendEntry
  repeat' split
  all_goals simp

/-! ## withdrawUsable -/

@[simp] theorem State.withdrawUsable_now (s : State) (j : Nat) : (s.withdrawUsable j).now = s.now := by
  unfold State.withdrawUsable
  dsimp only
  repeat' split
  all_goals simp
@[simp] theorem State.withdrawUsable_heldRun (s : State) (j : Nat) : (s.withdrawUsable j).heldRun = s.heldRun := by
  unfold State.withdrawUsable
  dsimp only
  repeat' split
  all_goals simp
@[simp] theorem State.withdrawUsable_timer (s : State) (j : Nat) : (s.withdrawUsable j).timer = s.timer := by
  unfold State.withdrawUsable
  dsimp only
  repeat' split
  all_goals simp
@[simp] theorem State.withdrawUsable_engine (s : State) (j : Nat) : (s.withdrawUsable j).engine = s.engine := by
  unfold State.withdrawUsable
  dsimp only
  repeat' split
  all_goals simp
@[simp] theorem State.withdrawUsable_journal (s : State) (j : Nat) : (s.withdrawUsable j).journal = s.journal := by
  unfold State.withdrawUsable
  dsimp only
  repeat' split
  all_goals simp
@[simp] theorem State.withdrawUsable_values (s : State) (j : Nat) : (s.withdrawUsable j).values = s.values := by
  unfold State.withdrawUsable
  dsimp only
  repeat' split
  all_goals simp
@[simp] theorem State.withdrawUsable_wire (s : State) (j : Nat) : (s.withdrawUsable j).wire = s.wire := by
  unfold State.withdrawUsable
  dsimp only
  repeat' split
  all_goals simp
@[simp] theorem State.withdrawUsable_pending (s : State) (j : Nat) : (s.withdrawUsable j).pending = s.pending := by
  unfold State.withdrawUsable
  dsimp only
  repeat' split
  all_goals simp

/-! ## withdrawCandidate -/

@[simp] theorem State.withdrawCandidate_now (s : State) (p : OpenPurpose) (j : Nat) :
    (s.withdrawCandidate p j).now = s.now := by
  unfold State.withdrawCandidate
  repeat' split
  all_goals simp
@[simp] theorem State.withdrawCandidate_heldRun (s : State) (p : OpenPurpose) (j : Nat) :
    (s.withdrawCandidate p j).heldRun = s.heldRun := by
  unfold State.withdrawCandidate
  repeat' split
  all_goals simp
@[simp] theorem State.withdrawCandidate_timer (s : State) (p : OpenPurpose) (j : Nat) :
    (s.withdrawCandidate p j).timer = s.timer := by
  unfold State.withdrawCandidate
  repeat' split
  all_goals simp
@[simp] theorem State.withdrawCandidate_engine (s : State) (p : OpenPurpose) (j : Nat) :
    (s.withdrawCandidate p j).engine = s.engine := by
  unfold State.withdrawCandidate
  repeat' split
  all_goals simp
@[simp] theorem State.withdrawCandidate_journal (s : State) (p : OpenPurpose) (j : Nat) :
    (s.withdrawCandidate p j).journal = s.journal := by
  unfold State.withdrawCandidate
  repeat' split
  all_goals simp
@[simp] theorem State.withdrawCandidate_values (s : State) (p : OpenPurpose) (j : Nat) :
    (s.withdrawCandidate p j).values = s.values := by
  unfold State.withdrawCandidate
  repeat' split
  all_goals simp
@[simp] theorem State.withdrawCandidate_wire (s : State) (p : OpenPurpose) (j : Nat) :
    (s.withdrawCandidate p j).wire = s.wire := by
  unfold State.withdrawCandidate
  repeat' split
  all_goals simp
@[simp] theorem State.withdrawCandidate_pending (s : State) (p : OpenPurpose) (j : Nat) :
    (s.withdrawCandidate p j).pending = s.pending := by
  unfold State.withdrawCandidate
  repeat' split
  all_goals simp

/-! ## setOpening -/

@[simp] theorem State.setOpening_now (s : State) (o : Opening) : (s.setOpening o).now = s.now := by
  unfold State.setOpening
  simp
@[simp] theorem State.setOpening_port (s : State) (o : Opening) : (s.setOpening o).port = s.port := by
  unfold State.setOpening
  simp
@[simp] theorem State.setOpening_staging (s : State) (o : Opening) : (s.setOpening o).staging = s.staging := by
  unfold State.setOpening
  simp
@[simp] theorem State.setOpening_heldRun (s : State) (o : Opening) : (s.setOpening o).heldRun = s.heldRun := by
  unfold State.setOpening
  simp
@[simp] theorem State.setOpening_timer (s : State) (o : Opening) : (s.setOpening o).timer = s.timer := by
  unfold State.setOpening
  simp
@[simp] theorem State.setOpening_engine (s : State) (o : Opening) : (s.setOpening o).engine = s.engine := by
  unfold State.setOpening
  simp
@[simp] theorem State.setOpening_tables (s : State) (o : Opening) : (s.setOpening o).tables = s.tables := by
  unfold State.setOpening
  simp
@[simp] theorem State.setOpening_pool (s : State) (o : Opening) : (s.setOpening o).pool = s.pool := by
  unfold State.setOpening
  simp
@[simp] theorem State.setOpening_link (s : State) (o : Opening) : (s.setOpening o).link = s.link := by
  unfold State.setOpening
  simp
@[simp] theorem State.setOpening_ctl (s : State) (o : Opening) : (s.setOpening o).ctl = s.ctl := by
  unfold State.setOpening
  simp
@[simp] theorem State.setOpening_values (s : State) (o : Opening) : (s.setOpening o).values = s.values := by
  unfold State.setOpening
  simp
@[simp] theorem State.setOpening_wire (s : State) (o : Opening) : (s.setOpening o).wire = s.wire := by
  unfold State.setOpening
  simp
@[simp] theorem State.setOpening_pending (s : State) (o : Opening) : (s.setOpening o).pending = s.pending := by
  unfold State.setOpening
  simp

/-! ## writePosition -/

@[simp] theorem State.writePosition_now (s : State) (o : Opening) (q : Nat) : (s.writePosition o q).now = s.now := by
  unfold State.writePosition
  simp
@[simp] theorem State.writePosition_port (s : State) (o : Opening) (q : Nat) :
    (s.writePosition o q).port = s.port := by
  unfold State.writePosition
  simp
@[simp] theorem State.writePosition_staging (s : State) (o : Opening) (q : Nat) :
    (s.writePosition o q).staging = s.staging := by
  unfold State.writePosition
  simp
@[simp] theorem State.writePosition_heldRun (s : State) (o : Opening) (q : Nat) :
    (s.writePosition o q).heldRun = s.heldRun := by
  unfold State.writePosition
  simp
@[simp] theorem State.writePosition_timer (s : State) (o : Opening) (q : Nat) :
    (s.writePosition o q).timer = s.timer := by
  unfold State.writePosition
  simp
@[simp] theorem State.writePosition_engine (s : State) (o : Opening) (q : Nat) :
    (s.writePosition o q).engine = s.engine := by
  unfold State.writePosition
  simp
@[simp] theorem State.writePosition_tables (s : State) (o : Opening) (q : Nat) :
    (s.writePosition o q).tables = s.tables := by
  unfold State.writePosition
  simp
@[simp] theorem State.writePosition_pool (s : State) (o : Opening) (q : Nat) :
    (s.writePosition o q).pool = s.pool := by
  unfold State.writePosition
  simp
@[simp] theorem State.writePosition_ctl (s : State) (o : Opening) (q : Nat) : (s.writePosition o q).ctl = s.ctl := by
  unfold State.writePosition
  simp
@[simp] theorem State.writePosition_values (s : State) (o : Opening) (q : Nat) :
    (s.writePosition o q).values = s.values := by
  unfold State.writePosition
  simp
@[simp] theorem State.writePosition_pending (s : State) (o : Opening) (q : Nat) :
    (s.writePosition o q).pending = s.pending := by
  unfold State.writePosition
  simp

/-! ## tryCandidate -/

@[simp] theorem State.tryCandidate_now (s : State) (p : OpenPurpose) (number candidate : Nat) :
    (s.tryCandidate p number candidate).now = s.now := by
  unfold State.tryCandidate
  dsimp only
  repeat' split
  all_goals simp
@[simp] theorem State.tryCandidate_port (s : State) (p : OpenPurpose) (number candidate : Nat) :
    (s.tryCandidate p number candidate).port = s.port := by
  unfold State.tryCandidate
  dsimp only
  repeat' split
  all_goals simp
@[simp] theorem State.tryCandidate_staging (s : State) (p : OpenPurpose) (number candidate : Nat) :
    (s.tryCandidate p number candidate).staging = s.staging := by
  unfold State.tryCandidate
  dsimp only
  repeat' split
  all_goals simp
@[simp] theorem State.tryCandidate_heldRun (s : State) (p : OpenPurpose) (number candidate : Nat) :
    (s.tryCandidate p number candidate).heldRun = s.heldRun := by
  unfold State.tryCandidate
  dsimp only
  repeat' split
  all_goals simp
@[simp] theorem State.tryCandidate_timer (s : State) (p : OpenPurpose) (number candidate : Nat) :
    (s.tryCandidate p number candidate).timer = s.timer := by
  unfold State.tryCandidate
  dsimp only
  repeat' split
  all_goals simp
@[simp] theorem State.tryCandidate_engine (s : State) (p : OpenPurpose) (number candidate : Nat) :
    (s.tryCandidate p number candidate).engine = s.engine := by
  unfold State.tryCandidate
  dsimp only
  repeat' split
  all_goals simp
@[simp] theorem State.tryCandidate_tables (s : State) (p : OpenPurpose) (number candidate : Nat) :
    (s.tryCandidate p number candidate).tables = s.tables := by
  unfold State.tryCandidate
  dsimp only
  repeat' split
  all_goals simp
@[simp] theorem State.tryCandidate_pool (s : State) (p : OpenPurpose) (number candidate : Nat) :
    (s.tryCandidate p number candidate).pool = s.pool := by
  unfold State.tryCandidate
  dsimp only
  repeat' split
  all_goals simp
@[simp] theorem State.tryCandidate_ctl (s : State) (p : OpenPurpose) (number candidate : Nat) :
    (s.tryCandidate p number candidate).ctl = s.ctl := by
  unfold State.tryCandidate
  dsimp only
  repeat' split
  all_goals simp
@[simp] theorem State.tryCandidate_values (s : State) (p : OpenPurpose) (number candidate : Nat) :
    (s.tryCandidate p number candidate).values = s.values := by
  unfold State.tryCandidate
  dsimp only
  repeat' split
  all_goals simp
@[simp] theorem State.tryCandidate_pending (s : State) (p : OpenPurpose) (number candidate : Nat) :
    (s.tryCandidate p number candidate).pending = s.pending := by
  unfold State.tryCandidate
  dsimp only
  repeat' split
  all_goals simp

/-! ## beginOpening -/

@[simp] theorem State.beginOpening_now (s : State) (p : OpenPurpose) : (s.beginOpening p).now = s.now := by
  unfold State.beginOpening
  repeat' split
  all_goals simp
@[simp] theorem State.beginOpening_heldRun (s : State) (p : OpenPurpose) :
    (s.beginOpening p).heldRun = s.heldRun := by
  unfold State.beginOpening
  repeat' split
  all_goals simp
@[simp] theorem State.beginOpening_values (s : State) (p : OpenPurpose) : (s.beginOpening p).values = s.values := by
  unfold State.beginOpening
  repeat' split
  all_goals simp
@[simp] theorem State.beginOpening_pending (s : State) (p : OpenPurpose) :
    (s.beginOpening p).pending = s.pending := by
  unfold State.beginOpening
  repeat' split
  all_goals simp

/-! ## beginRequest -/

@[simp] theorem State.beginRequest_now (s : State) : s.beginRequest.now = s.now := by
  unfold State.beginRequest
  repeat' split
  all_goals simp
@[simp] theorem State.beginRequest_heldRun (s : State) : s.beginRequest.heldRun = s.heldRun := by
  unfold State.beginRequest
  repeat' split
  all_goals simp
@[simp] theorem State.beginRequest_values (s : State) : s.beginRequest.values = s.values := by
  unfold State.beginRequest
  repeat' split
  all_goals simp
@[simp] theorem State.beginRequest_pending (s : State) : s.beginRequest.pending = s.pending := by
  unfold State.beginRequest
  repeat' split
  all_goals simp

/-! ## addRequest -/

@[simp] theorem State.addRequest_now (s : State) (q : JournalRequest) : (s.addRequest q).now = s.now := by
  unfold State.addRequest
  dsimp only
  repeat' split
  all_goals simp
@[simp] theorem State.addRequest_heldRun (s : State) (q : JournalRequest) : (s.addRequest q).heldRun = s.heldRun := by
  unfold State.addRequest
  dsimp only
  repeat' split
  all_goals simp
@[simp] theorem State.addRequest_values (s : State) (q : JournalRequest) : (s.addRequest q).values = s.values := by
  unfold State.addRequest
  dsimp only
  repeat' split
  all_goals simp
@[simp] theorem State.addRequest_pending (s : State) (q : JournalRequest) : (s.addRequest q).pending = s.pending := by
  unfold State.addRequest
  dsimp only
  repeat' split
  all_goals simp

/-! ## remapDone -/

@[simp] theorem State.remapDone_now (s : State) (l new old : Nat) : (s.remapDone l new old).now = s.now := by
  unfold State.remapDone
  dsimp only
  repeat' split
  all_goals simp
@[simp] theorem State.remapDone_heldRun (s : State) (l new old : Nat) :
    (s.remapDone l new old).heldRun = s.heldRun := by
  unfold State.remapDone
  dsimp only
  repeat' split
  all_goals simp
@[simp] theorem State.remapDone_values (s : State) (l new old : Nat) : (s.remapDone l new old).values = s.values := by
  unfold State.remapDone
  dsimp only
  repeat' split
  all_goals simp
@[simp] theorem State.remapDone_pending (s : State) (l new old : Nat) :
    (s.remapDone l new old).pending = s.pending := by
  unfold State.remapDone
  dsimp only
  repeat' split
  all_goals simp

/-! ## commitRetireDone -/

@[simp] theorem State.commitRetireDone_now (s : State) : s.commitRetireDone.now = s.now := by
  unfold State.commitRetireDone
  dsimp only
  repeat' split
  all_goals simp
@[simp] theorem State.commitRetireDone_heldRun (s : State) : s.commitRetireDone.heldRun = s.heldRun := by
  unfold State.commitRetireDone
  dsimp only
  repeat' split
  all_goals simp
@[simp] theorem State.commitRetireDone_journal (s : State) : s.commitRetireDone.journal = s.journal := by
  unfold State.commitRetireDone
  dsimp only
  repeat' split
  all_goals simp
@[simp] theorem State.commitRetireDone_values (s : State) : s.commitRetireDone.values = s.values := by
  unfold State.commitRetireDone
  dsimp only
  repeat' split
  all_goals simp
@[simp] theorem State.commitRetireDone_wire (s : State) : s.commitRetireDone.wire = s.wire := by
  unfold State.commitRetireDone
  dsimp only
  repeat' split
  all_goals simp
@[simp] theorem State.commitRetireDone_pending (s : State) : s.commitRetireDone.pending = s.pending := by
  unfold State.commitRetireDone
  dsimp only
  repeat' split
  all_goals simp

/-! ## requesterDone -/

@[simp] theorem State.requesterDone_now (s : State) (who : Requester) (e : Payload) :
    (s.requesterDone who e).now = s.now := by
  unfold State.requesterDone
  repeat' split
  all_goals simp
@[simp] theorem State.requesterDone_heldRun (s : State) (who : Requester) (e : Payload) :
    (s.requesterDone who e).heldRun = s.heldRun := by
  unfold State.requesterDone
  repeat' split
  all_goals simp
@[simp] theorem State.requesterDone_values (s : State) (who : Requester) (e : Payload) :
    (s.requesterDone who e).values = s.values := by
  unfold State.requesterDone
  repeat' split
  all_goals simp
@[simp] theorem State.requesterDone_pending (s : State) (who : Requester) (e : Payload) :
    (s.requesterDone who e).pending = s.pending := by
  unfold State.requesterDone
  repeat' split
  all_goals simp

/-! ## appendComplete -/

@[simp] theorem State.appendComplete_now (s : State) : s.appendComplete.now = s.now := by
  unfold State.appendComplete
  dsimp only
  repeat' split
  all_goals simp
@[simp] theorem State.appendComplete_heldRun (s : State) : s.appendComplete.heldRun = s.heldRun := by
  unfold State.appendComplete
  dsimp only
  repeat' split
  all_goals simp
@[simp] theorem State.appendComplete_values (s : State) : s.appendComplete.values = s.values := by
  unfold State.appendComplete
  dsimp only
  repeat' split
  all_goals simp
@[simp] theorem State.appendComplete_pending (s : State) : s.appendComplete.pending = s.pending := by
  unfold State.appendComplete
  dsimp only
  repeat' split
  all_goals simp

/-! ## appendFailed -/

@[simp] theorem State.appendFailed_now (s : State) : s.appendFailed.now = s.now := by
  unfold State.appendFailed
  dsimp only
  repeat' split
  all_goals simp
@[simp] theorem State.appendFailed_heldRun (s : State) : s.appendFailed.heldRun = s.heldRun := by
  unfold State.appendFailed
  dsimp only
  repeat' split
  all_goals simp
@[simp] theorem State.appendFailed_values (s : State) : s.appendFailed.values = s.values := by
  unfold State.appendFailed
  dsimp only
  repeat' split
  all_goals simp
@[simp] theorem State.appendFailed_pending (s : State) : s.appendFailed.pending = s.pending := by
  unfold State.appendFailed
  dsimp only
  repeat' split
  all_goals simp

/-! ## installUnopened -/

@[simp] theorem State.installUnopened_now (s : State) (m : MountRecord) (leftValid : Bool) :
    (s.installUnopened m leftValid).now = s.now := by
  unfold State.installUnopened
  repeat' split
  all_goals simp
@[simp] theorem State.installUnopened_port (s : State) (m : MountRecord) (leftValid : Bool) :
    (s.installUnopened m leftValid).port = s.port := by
  unfold State.installUnopened
  repeat' split
  all_goals simp
@[simp] theorem State.installUnopened_staging (s : State) (m : MountRecord) (leftValid : Bool) :
    (s.installUnopened m leftValid).staging = s.staging := by
  unfold State.installUnopened
  repeat' split
  all_goals simp
@[simp] theorem State.installUnopened_heldRun (s : State) (m : MountRecord) (leftValid : Bool) :
    (s.installUnopened m leftValid).heldRun = s.heldRun := by
  unfold State.installUnopened
  repeat' split
  all_goals simp
@[simp] theorem State.installUnopened_timer (s : State) (m : MountRecord) (leftValid : Bool) :
    (s.installUnopened m leftValid).timer = s.timer := by
  unfold State.installUnopened
  repeat' split
  all_goals simp
@[simp] theorem State.installUnopened_engine (s : State) (m : MountRecord) (leftValid : Bool) :
    (s.installUnopened m leftValid).engine = s.engine := by
  unfold State.installUnopened
  repeat' split
  all_goals simp
@[simp] theorem State.installUnopened_values (s : State) (m : MountRecord) (leftValid : Bool) :
    (s.installUnopened m leftValid).values = s.values := by
  unfold State.installUnopened
  repeat' split
  all_goals simp
@[simp] theorem State.installUnopened_pending (s : State) (m : MountRecord) (leftValid : Bool) :
    (s.installUnopened m leftValid).pending = s.pending := by
  unfold State.installUnopened
  repeat' split
  all_goals simp

/-! ## abandonOpening -/

@[simp] theorem State.abandonOpening_now (s : State) (o : Opening) (leftValid : Bool) :
    (s.abandonOpening o leftValid).now = s.now := by
  unfold State.abandonOpening
  repeat' split
  all_goals simp
@[simp] theorem State.abandonOpening_values (s : State) (o : Opening) (leftValid : Bool) :
    (s.abandonOpening o leftValid).values = s.values := by
  unfold State.abandonOpening
  repeat' split
  all_goals simp
@[simp] theorem State.abandonOpening_pending (s : State) (o : Opening) (leftValid : Bool) :
    (s.abandonOpening o leftValid).pending = s.pending := by
  unfold State.abandonOpening
  repeat' split
  all_goals simp

/-! ## nextCandidate -/

@[simp] theorem State.nextCandidate_now (s : State) (o : Opening) (leftValid : Bool) :
    (s.nextCandidate o leftValid).now = s.now := by
  unfold State.nextCandidate
  repeat' split
  all_goals simp
@[simp] theorem State.nextCandidate_values (s : State) (o : Opening) (leftValid : Bool) :
    (s.nextCandidate o leftValid).values = s.values := by
  unfold State.nextCandidate
  repeat' split
  all_goals simp
@[simp] theorem State.nextCandidate_pending (s : State) (o : Opening) (leftValid : Bool) :
    (s.nextCandidate o leftValid).pending = s.pending := by
  unfold State.nextCandidate
  repeat' split
  all_goals simp

/-! ## candidateFailed -/

@[simp] theorem State.candidateFailed_now (s : State) (o : Opening) (headIssued : Bool) :
    (s.candidateFailed o headIssued).now = s.now := by
  unfold State.candidateFailed
  dsimp only
  repeat' split
  all_goals simp
@[simp] theorem State.candidateFailed_values (s : State) (o : Opening) (headIssued : Bool) :
    (s.candidateFailed o headIssued).values = s.values := by
  unfold State.candidateFailed
  dsimp only
  repeat' split
  all_goals simp
@[simp] theorem State.candidateFailed_pending (s : State) (o : Opening) (headIssued : Bool) :
    (s.candidateFailed o headIssued).pending = s.pending := by
  unfold State.candidateFailed
  dsimp only
  repeat' split
  all_goals simp

/-! ## completeOpening -/

@[simp] theorem State.completeOpening_now (s : State) (o : Opening) : (s.completeOpening o).now = s.now := by
  unfold State.completeOpening
  dsimp only
  repeat' split
  all_goals simp
@[simp] theorem State.completeOpening_port (s : State) (o : Opening) : (s.completeOpening o).port = s.port := by
  unfold State.completeOpening
  dsimp only
  repeat' split
  all_goals simp
@[simp] theorem State.completeOpening_staging (s : State) (o : Opening) :
    (s.completeOpening o).staging = s.staging := by
  unfold State.completeOpening
  dsimp only
  repeat' split
  all_goals simp
@[simp] theorem State.completeOpening_heldRun (s : State) (o : Opening) :
    (s.completeOpening o).heldRun = s.heldRun := by
  unfold State.completeOpening
  dsimp only
  repeat' split
  all_goals simp
@[simp] theorem State.completeOpening_timer (s : State) (o : Opening) : (s.completeOpening o).timer = s.timer := by
  unfold State.completeOpening
  dsimp only
  repeat' split
  all_goals simp
@[simp] theorem State.completeOpening_engine (s : State) (o : Opening) : (s.completeOpening o).engine = s.engine := by
  unfold State.completeOpening
  dsimp only
  repeat' split
  all_goals simp
@[simp] theorem State.completeOpening_values (s : State) (o : Opening) : (s.completeOpening o).values = s.values := by
  unfold State.completeOpening
  dsimp only
  repeat' split
  all_goals simp
@[simp] theorem State.completeOpening_pending (s : State) (o : Opening) :
    (s.completeOpening o).pending = s.pending := by
  unfold State.completeOpening
  dsimp only
  repeat' split
  all_goals simp

/-! ## positionWritten -/

@[simp] theorem State.positionWritten_now (s : State) (o : Opening) (q : Nat) :
    (s.positionWritten o q).now = s.now := by
  unfold State.positionWritten
  dsimp only
  repeat' split
  all_goals simp
@[simp] theorem State.positionWritten_port (s : State) (o : Opening) (q : Nat) :
    (s.positionWritten o q).port = s.port := by
  unfold State.positionWritten
  dsimp only
  repeat' split
  all_goals simp
@[simp] theorem State.positionWritten_staging (s : State) (o : Opening) (q : Nat) :
    (s.positionWritten o q).staging = s.staging := by
  unfold State.positionWritten
  dsimp only
  repeat' split
  all_goals simp
@[simp] theorem State.positionWritten_heldRun (s : State) (o : Opening) (q : Nat) :
    (s.positionWritten o q).heldRun = s.heldRun := by
  unfold State.positionWritten
  dsimp only
  repeat' split
  all_goals simp
@[simp] theorem State.positionWritten_timer (s : State) (o : Opening) (q : Nat) :
    (s.positionWritten o q).timer = s.timer := by
  unfold State.positionWritten
  dsimp only
  repeat' split
  all_goals simp
@[simp] theorem State.positionWritten_engine (s : State) (o : Opening) (q : Nat) :
    (s.positionWritten o q).engine = s.engine := by
  unfold State.positionWritten
  dsimp only
  repeat' split
  all_goals simp
@[simp] theorem State.positionWritten_values (s : State) (o : Opening) (q : Nat) :
    (s.positionWritten o q).values = s.values := by
  unfold State.positionWritten
  dsimp only
  repeat' split
  all_goals simp
@[simp] theorem State.positionWritten_pending (s : State) (o : Opening) (q : Nat) :
    (s.positionWritten o q).pending = s.pending := by
  unfold State.positionWritten
  dsimp only
  repeat' split
  all_goals simp

/-! ## journalProgramEnd -/

@[simp] theorem State.journalProgramEnd_now (s : State) (fail : Bool) : (s.journalProgramEnd fail).now = s.now := by
  unfold State.journalProgramEnd
  repeat' split
  all_goals simp
@[simp] theorem State.journalProgramEnd_values (s : State) (fail : Bool) :
    (s.journalProgramEnd fail).values = s.values := by
  unfold State.journalProgramEnd
  repeat' split
  all_goals simp
@[simp] theorem State.journalProgramEnd_pending (s : State) (fail : Bool) :
    (s.journalProgramEnd fail).pending = s.pending := by
  unfold State.journalProgramEnd
  repeat' split
  all_goals simp

/-! ## journalReadBackEnd -/

@[simp] theorem State.journalReadBackEnd_now (s : State) (bytes : List Byte) :
    (s.journalReadBackEnd bytes).now = s.now := by
  unfold State.journalReadBackEnd
  repeat' split
  all_goals simp
@[simp] theorem State.journalReadBackEnd_values (s : State) (bytes : List Byte) :
    (s.journalReadBackEnd bytes).values = s.values := by
  unfold State.journalReadBackEnd
  repeat' split
  all_goals simp
@[simp] theorem State.journalReadBackEnd_pending (s : State) (bytes : List Byte) :
    (s.journalReadBackEnd bytes).pending = s.pending := by
  unfold State.journalReadBackEnd
  repeat' split
  all_goals simp

/-! ## journalEraseEnd -/

@[simp] theorem State.journalEraseEnd_now (s : State) (fail : Bool) : (s.journalEraseEnd fail).now = s.now := by
  unfold State.journalEraseEnd
  repeat' split
  all_goals simp
@[simp] theorem State.journalEraseEnd_values (s : State) (fail : Bool) :
    (s.journalEraseEnd fail).values = s.values := by
  unfold State.journalEraseEnd
  repeat' split
  all_goals simp
@[simp] theorem State.journalEraseEnd_pending (s : State) (fail : Bool) :
    (s.journalEraseEnd fail).pending = s.pending := by
  unfold State.journalEraseEnd
  repeat' split
  all_goals simp

/-! ## programFrom -/

@[simp] theorem State.programFrom_now (s : State) (j : Job) (k : Nat) : (s.programFrom j k).now = s.now := by
  unfold State.programFrom
  repeat' split
  all_goals simp
@[simp] theorem State.programFrom_heldRun (s : State) (j : Job) (k : Nat) :
    (s.programFrom j k).heldRun = s.heldRun := by
  unfold State.programFrom
  repeat' split
  all_goals simp
@[simp] theorem State.programFrom_journal (s : State) (j : Job) (k : Nat) :
    (s.programFrom j k).journal = s.journal := by
  unfold State.programFrom
  repeat' split
  all_goals simp
@[simp] theorem State.programFrom_values (s : State) (j : Job) (k : Nat) : (s.programFrom j k).values = s.values := by
  unfold State.programFrom
  repeat' split
  all_goals simp
@[simp] theorem State.programFrom_wire (s : State) (j : Job) (k : Nat) : (s.programFrom j k).wire = s.wire := by
  unfold State.programFrom
  repeat' split
  all_goals simp
@[simp] theorem State.programFrom_pending (s : State) (j : Job) (k : Nat) :
    (s.programFrom j k).pending = s.pending := by
  unfold State.programFrom
  repeat' split
  all_goals simp

/-! ## copyFrom -/

@[simp] theorem State.copyFrom_now (s : State) (j : Job) (k : Nat) : (s.copyFrom j k).now = s.now := by
  unfold State.copyFrom
  repeat' split
  all_goals simp
@[simp] theorem State.copyFrom_heldRun (s : State) (j : Job) (k : Nat) : (s.copyFrom j k).heldRun = s.heldRun := by
  unfold State.copyFrom
  repeat' split
  all_goals simp
@[simp] theorem State.copyFrom_values (s : State) (j : Job) (k : Nat) : (s.copyFrom j k).values = s.values := by
  unfold State.copyFrom
  repeat' split
  all_goals simp
@[simp] theorem State.copyFrom_pending (s : State) (j : Job) (k : Nat) : (s.copyFrom j k).pending = s.pending := by
  unfold State.copyFrom
  repeat' split
  all_goals simp

/-! ## pageDone -/

@[simp] theorem State.pageDone_now (s : State) (j : Job) : (s.pageDone j).now = s.now := by
  unfold State.pageDone
  repeat' split
  all_goals simp
@[simp] theorem State.pageDone_heldRun (s : State) (j : Job) : (s.pageDone j).heldRun = s.heldRun := by
  unfold State.pageDone
  repeat' split
  all_goals simp
@[simp] theorem State.pageDone_values (s : State) (j : Job) : (s.pageDone j).values = s.values := by
  unfold State.pageDone
  repeat' split
  all_goals simp
@[simp] theorem State.pageDone_pending (s : State) (j : Job) : (s.pageDone j).pending = s.pending := by
  unfold State.pageDone
  repeat' split
  all_goals simp

/-! ## pageFailed -/

@[simp] theorem State.pageFailed_now (s : State) (j : Job) (cause : RetireCause) :
    (s.pageFailed j cause).now = s.now := by
  unfold State.pageFailed
  repeat' split
  all_goals simp
@[simp] theorem State.pageFailed_heldRun (s : State) (j : Job) (cause : RetireCause) :
    (s.pageFailed j cause).heldRun = s.heldRun := by
  unfold State.pageFailed
  repeat' split
  all_goals simp
@[simp] theorem State.pageFailed_values (s : State) (j : Job) (cause : RetireCause) :
    (s.pageFailed j cause).values = s.values := by
  unfold State.pageFailed
  repeat' split
  all_goals simp
@[simp] theorem State.pageFailed_pending (s : State) (j : Job) (cause : RetireCause) :
    (s.pageFailed j cause).pending = s.pending := by
  unfold State.pageFailed
  repeat' split
  all_goals simp

/-! ## pageReadDone -/

@[simp] theorem State.pageReadDone_now (s : State) (bytes : List Byte) : (s.pageReadDone bytes).now = s.now := by
  unfold State.pageReadDone
  dsimp only
  repeat' split
  all_goals simp
@[simp] theorem State.pageReadDone_heldRun (s : State) (bytes : List Byte) :
    (s.pageReadDone bytes).heldRun = s.heldRun := by
  unfold State.pageReadDone
  dsimp only
  repeat' split
  all_goals simp
@[simp] theorem State.pageReadDone_values (s : State) (bytes : List Byte) :
    (s.pageReadDone bytes).values = s.values := by
  unfold State.pageReadDone
  dsimp only
  repeat' split
  all_goals simp
@[simp] theorem State.pageReadDone_pending (s : State) (bytes : List Byte) :
    (s.pageReadDone bytes).pending = s.pending := by
  unfold State.pageReadDone
  dsimp only
  repeat' split
  all_goals simp

/-! ## commitProgramEnd -/

@[simp] theorem State.commitProgramEnd_now (s : State) (fail : Bool) : (s.commitProgramEnd fail).now = s.now := by
  unfold State.commitProgramEnd
  repeat' split
  all_goals simp
@[simp] theorem State.commitProgramEnd_heldRun (s : State) (fail : Bool) :
    (s.commitProgramEnd fail).heldRun = s.heldRun := by
  unfold State.commitProgramEnd
  repeat' split
  all_goals simp
@[simp] theorem State.commitProgramEnd_values (s : State) (fail : Bool) :
    (s.commitProgramEnd fail).values = s.values := by
  unfold State.commitProgramEnd
  repeat' split
  all_goals simp
@[simp] theorem State.commitProgramEnd_pending (s : State) (fail : Bool) :
    (s.commitProgramEnd fail).pending = s.pending := by
  unfold State.commitProgramEnd
  repeat' split
  all_goals simp

/-! ## commitReadBackEnd -/

@[simp] theorem State.commitReadBackEnd_now (s : State) (bytes : List Byte) :
    (s.commitReadBackEnd bytes).now = s.now := by
  unfold State.commitReadBackEnd
  repeat' split
  all_goals simp
@[simp] theorem State.commitReadBackEnd_heldRun (s : State) (bytes : List Byte) :
    (s.commitReadBackEnd bytes).heldRun = s.heldRun := by
  unfold State.commitReadBackEnd
  repeat' split
  all_goals simp
@[simp] theorem State.commitReadBackEnd_values (s : State) (bytes : List Byte) :
    (s.commitReadBackEnd bytes).values = s.values := by
  unfold State.commitReadBackEnd
  repeat' split
  all_goals simp
@[simp] theorem State.commitReadBackEnd_pending (s : State) (bytes : List Byte) :
    (s.commitReadBackEnd bytes).pending = s.pending := by
  unfold State.commitReadBackEnd
  repeat' split
  all_goals simp

/-! ## commitEraseEnd -/

@[simp] theorem State.commitEraseEnd_now (s : State) (p : Nat) (fail : Bool) :
    (s.commitEraseEnd p fail).now = s.now := by
  unfold State.commitEraseEnd
  repeat' split
  all_goals simp
@[simp] theorem State.commitEraseEnd_heldRun (s : State) (p : Nat) (fail : Bool) :
    (s.commitEraseEnd p fail).heldRun = s.heldRun := by
  unfold State.commitEraseEnd
  repeat' split
  all_goals simp
@[simp] theorem State.commitEraseEnd_values (s : State) (p : Nat) (fail : Bool) :
    (s.commitEraseEnd p fail).values = s.values := by
  unfold State.commitEraseEnd
  repeat' split
  all_goals simp
@[simp] theorem State.commitEraseEnd_pending (s : State) (p : Nat) (fail : Bool) :
    (s.commitEraseEnd p fail).pending = s.pending := by
  unfold State.commitEraseEnd
  repeat' split
  all_goals simp

/-! ## grantErase -/

@[simp] theorem State.grantErase_now (s : State) : s.grantErase.now = s.now := by
  unfold State.grantErase
  repeat' split
  all_goals simp
@[simp] theorem State.grantErase_port (s : State) : s.grantErase.port = s.port := by
  unfold State.grantErase
  repeat' split
  all_goals simp
@[simp] theorem State.grantErase_staging (s : State) : s.grantErase.staging = s.staging := by
  unfold State.grantErase
  repeat' split
  all_goals simp
@[simp] theorem State.grantErase_heldRun (s : State) : s.grantErase.heldRun = s.heldRun := by
  unfold State.grantErase
  repeat' split
  all_goals simp
@[simp] theorem State.grantErase_timer (s : State) : s.grantErase.timer = s.timer := by
  unfold State.grantErase
  repeat' split
  all_goals simp
@[simp] theorem State.grantErase_engine (s : State) : s.grantErase.engine = s.engine := by
  unfold State.grantErase
  repeat' split
  all_goals simp
@[simp] theorem State.grantErase_tables (s : State) : s.grantErase.tables = s.tables := by
  unfold State.grantErase
  repeat' split
  all_goals simp
@[simp] theorem State.grantErase_journal (s : State) : s.grantErase.journal = s.journal := by
  unfold State.grantErase
  repeat' split
  all_goals simp
@[simp] theorem State.grantErase_ctl (s : State) : s.grantErase.ctl = s.ctl := by
  unfold State.grantErase
  repeat' split
  all_goals simp
@[simp] theorem State.grantErase_values (s : State) : s.grantErase.values = s.values := by
  unfold State.grantErase
  repeat' split
  all_goals simp
@[simp] theorem State.grantErase_pending (s : State) : s.grantErase.pending = s.pending := by
  unfold State.grantErase
  repeat' split
  all_goals simp

/-! ## openingFinds -/

@[simp] theorem State.openingFinds_now (s : State) (j : Nat) (fail : Bool) : (s.openingFinds j fail).now = s.now := by
  unfold State.openingFinds
  dsimp only
  repeat' split
  all_goals simp
@[simp] theorem State.openingFinds_values (s : State) (j : Nat) (fail : Bool) :
    (s.openingFinds j fail).values = s.values := by
  unfold State.openingFinds
  dsimp only
  repeat' split
  all_goals simp
@[simp] theorem State.openingFinds_pending (s : State) (j : Nat) (fail : Bool) :
    (s.openingFinds j fail).pending = s.pending := by
  unfold State.openingFinds
  dsimp only
  repeat' split
  all_goals simp

/-! ## journalSectorErased -/

@[simp] theorem State.journalSectorErased_now (s : State) (j : Nat) (fail : Bool) :
    (s.journalSectorErased j fail).now = s.now := by
  unfold State.journalSectorErased
  dsimp only
  repeat' split
  all_goals simp
@[simp] theorem State.journalSectorErased_values (s : State) (j : Nat) (fail : Bool) :
    (s.journalSectorErased j fail).values = s.values := by
  unfold State.journalSectorErased
  dsimp only
  repeat' split
  all_goals simp
@[simp] theorem State.journalSectorErased_pending (s : State) (j : Nat) (fail : Bool) :
    (s.journalSectorErased j fail).pending = s.pending := by
  unfold State.journalSectorErased
  dsimp only
  repeat' split
  all_goals simp

/-! ## spareEraseEnd -/

@[simp] theorem State.spareEraseEnd_now (s : State) (p : Nat) (fail : Bool) :
    (s.spareEraseEnd p fail).now = s.now := by
  unfold State.spareEraseEnd
  repeat' split
  all_goals simp
@[simp] theorem State.spareEraseEnd_heldRun (s : State) (p : Nat) (fail : Bool) :
    (s.spareEraseEnd p fail).heldRun = s.heldRun := by
  unfold State.spareEraseEnd
  repeat' split
  all_goals simp
@[simp] theorem State.spareEraseEnd_values (s : State) (p : Nat) (fail : Bool) :
    (s.spareEraseEnd p fail).values = s.values := by
  unfold State.spareEraseEnd
  repeat' split
  all_goals simp
@[simp] theorem State.spareEraseEnd_pending (s : State) (p : Nat) (fail : Bool) :
    (s.spareEraseEnd p fail).pending = s.pending := by
  unfold State.spareEraseEnd
  repeat' split
  all_goals simp

/-! ## eraserEraseEnd -/

@[simp] theorem State.eraserEraseEnd_now (s : State) (fail : Bool) : (s.eraserEraseEnd fail).now = s.now := by
  unfold State.eraserEraseEnd
  repeat' split
  all_goals simp
@[simp] theorem State.eraserEraseEnd_values (s : State) (fail : Bool) :
    (s.eraserEraseEnd fail).values = s.values := by
  unfold State.eraserEraseEnd
  repeat' split
  all_goals simp
@[simp] theorem State.eraserEraseEnd_pending (s : State) (fail : Bool) :
    (s.eraserEraseEnd fail).pending = s.pending := by
  unfold State.eraserEraseEnd
  repeat' split
  all_goals simp

/-! ## enterFormatting -/

@[simp] theorem State.enterFormatting_now (s : State) (m : MountRecord) : (s.enterFormatting m).now = s.now := by
  unfold State.enterFormatting
  simp
@[simp] theorem State.enterFormatting_heldRun (s : State) (m : MountRecord) :
    (s.enterFormatting m).heldRun = s.heldRun := by
  unfold State.enterFormatting
  simp
@[simp] theorem State.enterFormatting_timer (s : State) (m : MountRecord) :
    (s.enterFormatting m).timer = s.timer := by
  unfold State.enterFormatting
  simp
@[simp] theorem State.enterFormatting_engine (s : State) (m : MountRecord) :
    (s.enterFormatting m).engine = s.engine := by
  unfold State.enterFormatting
  simp
@[simp] theorem State.enterFormatting_tables (s : State) (m : MountRecord) :
    (s.enterFormatting m).tables = s.tables := by
  unfold State.enterFormatting
  simp
@[simp] theorem State.enterFormatting_journal (s : State) (m : MountRecord) :
    (s.enterFormatting m).journal = s.journal := by
  unfold State.enterFormatting
  simp
@[simp] theorem State.enterFormatting_values (s : State) (m : MountRecord) :
    (s.enterFormatting m).values = s.values := by
  unfold State.enterFormatting
  simp
@[simp] theorem State.enterFormatting_pending (s : State) (m : MountRecord) :
    (s.enterFormatting m).pending = s.pending := by
  unfold State.enterFormatting
  simp

/-! ## noUsableState -/

@[simp] theorem State.noUsableState_now (s : State) (m : MountRecord) : (s.noUsableState m).now = s.now := by
  unfold State.noUsableState
  repeat' split
  all_goals simp
@[simp] theorem State.noUsableState_values (s : State) (m : MountRecord) : (s.noUsableState m).values = s.values := by
  unfold State.noUsableState
  repeat' split
  all_goals simp
@[simp] theorem State.noUsableState_pending (s : State) (m : MountRecord) :
    (s.noUsableState m).pending = s.pending := by
  unfold State.noUsableState
  repeat' split
  all_goals simp

/-! ## readSector -/

@[simp] theorem State.readSector_now (s : State) (m : MountRecord) (step : MountStep) (j : Nat) :
    (s.readSector m step j).now = s.now := by
  unfold State.readSector
  simp
@[simp] theorem State.readSector_port (s : State) (m : MountRecord) (step : MountStep) (j : Nat) :
    (s.readSector m step j).port = s.port := by
  unfold State.readSector
  simp
@[simp] theorem State.readSector_staging (s : State) (m : MountRecord) (step : MountStep) (j : Nat) :
    (s.readSector m step j).staging = s.staging := by
  unfold State.readSector
  simp
@[simp] theorem State.readSector_heldRun (s : State) (m : MountRecord) (step : MountStep) (j : Nat) :
    (s.readSector m step j).heldRun = s.heldRun := by
  unfold State.readSector
  simp
@[simp] theorem State.readSector_timer (s : State) (m : MountRecord) (step : MountStep) (j : Nat) :
    (s.readSector m step j).timer = s.timer := by
  unfold State.readSector
  simp
@[simp] theorem State.readSector_engine (s : State) (m : MountRecord) (step : MountStep) (j : Nat) :
    (s.readSector m step j).engine = s.engine := by
  unfold State.readSector
  simp
@[simp] theorem State.readSector_tables (s : State) (m : MountRecord) (step : MountStep) (j : Nat) :
    (s.readSector m step j).tables = s.tables := by
  unfold State.readSector
  simp
@[simp] theorem State.readSector_journal (s : State) (m : MountRecord) (step : MountStep) (j : Nat) :
    (s.readSector m step j).journal = s.journal := by
  unfold State.readSector
  simp
@[simp] theorem State.readSector_pool (s : State) (m : MountRecord) (step : MountStep) (j : Nat) :
    (s.readSector m step j).pool = s.pool := by
  unfold State.readSector
  simp
@[simp] theorem State.readSector_values (s : State) (m : MountRecord) (step : MountStep) (j : Nat) :
    (s.readSector m step j).values = s.values := by
  unfold State.readSector
  simp
@[simp] theorem State.readSector_pending (s : State) (m : MountRecord) (step : MountStep) (j : Nat) :
    (s.readSector m step j).pending = s.pending := by
  unfold State.readSector
  simp

/-! ## nextPage -/

@[simp] theorem State.nextPage_now (s : State) (m : MountRecord) : (s.nextPage m).now = s.now := by
  unfold State.nextPage
  simp
@[simp] theorem State.nextPage_port (s : State) (m : MountRecord) : (s.nextPage m).port = s.port := by
  unfold State.nextPage
  simp
@[simp] theorem State.nextPage_staging (s : State) (m : MountRecord) : (s.nextPage m).staging = s.staging := by
  unfold State.nextPage
  simp
@[simp] theorem State.nextPage_heldRun (s : State) (m : MountRecord) : (s.nextPage m).heldRun = s.heldRun := by
  unfold State.nextPage
  simp
@[simp] theorem State.nextPage_timer (s : State) (m : MountRecord) : (s.nextPage m).timer = s.timer := by
  unfold State.nextPage
  simp
@[simp] theorem State.nextPage_engine (s : State) (m : MountRecord) : (s.nextPage m).engine = s.engine := by
  unfold State.nextPage
  simp
@[simp] theorem State.nextPage_tables (s : State) (m : MountRecord) : (s.nextPage m).tables = s.tables := by
  unfold State.nextPage
  simp
@[simp] theorem State.nextPage_journal (s : State) (m : MountRecord) : (s.nextPage m).journal = s.journal := by
  unfold State.nextPage
  simp
@[simp] theorem State.nextPage_pool (s : State) (m : MountRecord) : (s.nextPage m).pool = s.pool := by
  unfold State.nextPage
  simp
@[simp] theorem State.nextPage_values (s : State) (m : MountRecord) : (s.nextPage m).values = s.values := by
  unfold State.nextPage
  simp
@[simp] theorem State.nextPage_pending (s : State) (m : MountRecord) : (s.nextPage m).pending = s.pending := by
  unfold State.nextPage
  simp

/-! ## beginMountOpening -/

@[simp] theorem State.beginMountOpening_now (s : State) (m : MountRecord) : (s.beginMountOpening m).now = s.now := by
  unfold State.beginMountOpening
  dsimp only
  repeat' split
  all_goals simp
@[simp] theorem State.beginMountOpening_port (s : State) (m : MountRecord) :
    (s.beginMountOpening m).port = s.port := by
  unfold State.beginMountOpening
  dsimp only
  repeat' split
  all_goals simp
@[simp] theorem State.beginMountOpening_staging (s : State) (m : MountRecord) :
    (s.beginMountOpening m).staging = s.staging := by
  unfold State.beginMountOpening
  dsimp only
  repeat' split
  all_goals simp
@[simp] theorem State.beginMountOpening_heldRun (s : State) (m : MountRecord) :
    (s.beginMountOpening m).heldRun = s.heldRun := by
  unfold State.beginMountOpening
  dsimp only
  repeat' split
  all_goals simp
@[simp] theorem State.beginMountOpening_timer (s : State) (m : MountRecord) :
    (s.beginMountOpening m).timer = s.timer := by
  unfold State.beginMountOpening
  dsimp only
  repeat' split
  all_goals simp
@[simp] theorem State.beginMountOpening_engine (s : State) (m : MountRecord) :
    (s.beginMountOpening m).engine = s.engine := by
  unfold State.beginMountOpening
  dsimp only
  repeat' split
  all_goals simp
@[simp] theorem State.beginMountOpening_values (s : State) (m : MountRecord) :
    (s.beginMountOpening m).values = s.values := by
  unfold State.beginMountOpening
  dsimp only
  repeat' split
  all_goals simp
@[simp] theorem State.beginMountOpening_pending (s : State) (m : MountRecord) :
    (s.beginMountOpening m).pending = s.pending := by
  unfold State.beginMountOpening
  dsimp only
  repeat' split
  all_goals simp

/-! ## installNewest -/

@[simp] theorem State.installNewest_now (s : State) (m : MountRecord) (previous : Option Nat) :
    (s.installNewest m previous).now = s.now := by
  unfold State.installNewest
  simp
@[simp] theorem State.installNewest_port (s : State) (m : MountRecord) (previous : Option Nat) :
    (s.installNewest m previous).port = s.port := by
  unfold State.installNewest
  simp
@[simp] theorem State.installNewest_staging (s : State) (m : MountRecord) (previous : Option Nat) :
    (s.installNewest m previous).staging = s.staging := by
  unfold State.installNewest
  simp
@[simp] theorem State.installNewest_heldRun (s : State) (m : MountRecord) (previous : Option Nat) :
    (s.installNewest m previous).heldRun = s.heldRun := by
  unfold State.installNewest
  simp
@[simp] theorem State.installNewest_timer (s : State) (m : MountRecord) (previous : Option Nat) :
    (s.installNewest m previous).timer = s.timer := by
  unfold State.installNewest
  simp
@[simp] theorem State.installNewest_engine (s : State) (m : MountRecord) (previous : Option Nat) :
    (s.installNewest m previous).engine = s.engine := by
  unfold State.installNewest
  simp
@[simp] theorem State.installNewest_values (s : State) (m : MountRecord) (previous : Option Nat) :
    (s.installNewest m previous).values = s.values := by
  unfold State.installNewest
  simp
@[simp] theorem State.installNewest_pending (s : State) (m : MountRecord) (previous : Option Nat) :
    (s.installNewest m previous).pending = s.pending := by
  unfold State.installNewest
  simp

/-! ## searchPrevious -/

@[simp] theorem State.searchPrevious_now (s : State) (m : MountRecord) (bound : Nat) :
    (s.searchPrevious m bound).now = s.now := by
  unfold State.searchPrevious
  repeat' split
  all_goals simp
@[simp] theorem State.searchPrevious_port (s : State) (m : MountRecord) (bound : Nat) :
    (s.searchPrevious m bound).port = s.port := by
  unfold State.searchPrevious
  repeat' split
  all_goals simp
@[simp] theorem State.searchPrevious_staging (s : State) (m : MountRecord) (bound : Nat) :
    (s.searchPrevious m bound).staging = s.staging := by
  unfold State.searchPrevious
  repeat' split
  all_goals simp
@[simp] theorem State.searchPrevious_heldRun (s : State) (m : MountRecord) (bound : Nat) :
    (s.searchPrevious m bound).heldRun = s.heldRun := by
  unfold State.searchPrevious
  repeat' split
  all_goals simp
@[simp] theorem State.searchPrevious_timer (s : State) (m : MountRecord) (bound : Nat) :
    (s.searchPrevious m bound).timer = s.timer := by
  unfold State.searchPrevious
  repeat' split
  all_goals simp
@[simp] theorem State.searchPrevious_engine (s : State) (m : MountRecord) (bound : Nat) :
    (s.searchPrevious m bound).engine = s.engine := by
  unfold State.searchPrevious
  repeat' split
  all_goals simp
@[simp] theorem State.searchPrevious_values (s : State) (m : MountRecord) (bound : Nat) :
    (s.searchPrevious m bound).values = s.values := by
  unfold State.searchPrevious
  repeat' split
  all_goals simp
@[simp] theorem State.searchPrevious_pending (s : State) (m : MountRecord) (bound : Nat) :
    (s.searchPrevious m bound).pending = s.pending := by
  unfold State.searchPrevious
  repeat' split
  all_goals simp

/-! ## previousRead -/

@[simp] theorem State.previousRead_now (s : State) (m : MountRecord) : (s.previousRead m).now = s.now := by
  unfold State.previousRead
  dsimp only
  repeat' split
  all_goals simp
@[simp] theorem State.previousRead_port (s : State) (m : MountRecord) : (s.previousRead m).port = s.port := by
  unfold State.previousRead
  dsimp only
  repeat' split
  all_goals simp
@[simp] theorem State.previousRead_staging (s : State) (m : MountRecord) :
    (s.previousRead m).staging = s.staging := by
  unfold State.previousRead
  dsimp only
  repeat' split
  all_goals simp
@[simp] theorem State.previousRead_heldRun (s : State) (m : MountRecord) :
    (s.previousRead m).heldRun = s.heldRun := by
  unfold State.previousRead
  dsimp only
  repeat' split
  all_goals simp
@[simp] theorem State.previousRead_timer (s : State) (m : MountRecord) : (s.previousRead m).timer = s.timer := by
  unfold State.previousRead
  dsimp only
  repeat' split
  all_goals simp
@[simp] theorem State.previousRead_engine (s : State) (m : MountRecord) : (s.previousRead m).engine = s.engine := by
  unfold State.previousRead
  dsimp only
  repeat' split
  all_goals simp
@[simp] theorem State.previousRead_values (s : State) (m : MountRecord) : (s.previousRead m).values = s.values := by
  unfold State.previousRead
  dsimp only
  repeat' split
  all_goals simp
@[simp] theorem State.previousRead_pending (s : State) (m : MountRecord) :
    (s.previousRead m).pending = s.pending := by
  unfold State.previousRead
  dsimp only
  repeat' split
  all_goals simp

/-! ## checkpointLoaded -/

@[simp] theorem State.checkpointLoaded_now (s : State) (m : MountRecord) (k : Checkpoint) :
    (s.checkpointLoaded m k).now = s.now := by
  unfold State.checkpointLoaded
  dsimp only
  repeat' split
  all_goals simp
@[simp] theorem State.checkpointLoaded_values (s : State) (m : MountRecord) (k : Checkpoint) :
    (s.checkpointLoaded m k).values = s.values := by
  unfold State.checkpointLoaded
  dsimp only
  repeat' split
  all_goals simp
@[simp] theorem State.checkpointLoaded_pending (s : State) (m : MountRecord) (k : Checkpoint) :
    (s.checkpointLoaded m k).pending = s.pending := by
  unfold State.checkpointLoaded
  dsimp only
  repeat' split
  all_goals simp

/-! ## loadRead -/

@[simp] theorem State.loadRead_now (s : State) (m : MountRecord) : (s.loadRead m).now = s.now := by
  unfold State.loadRead
  dsimp only
  repeat' split
  all_goals simp
@[simp] theorem State.loadRead_values (s : State) (m : MountRecord) : (s.loadRead m).values = s.values := by
  unfold State.loadRead
  dsimp only
  repeat' split
  all_goals simp
@[simp] theorem State.loadRead_pending (s : State) (m : MountRecord) : (s.loadRead m).pending = s.pending := by
  unfold State.loadRead
  dsimp only
  repeat' split
  all_goals simp

/-! ## scanDecide -/

@[simp] theorem State.scanDecide_now (s : State) (m : MountRecord) : (s.scanDecide m).now = s.now := by
  unfold State.scanDecide
  repeat' split
  all_goals simp
@[simp] theorem State.scanDecide_values (s : State) (m : MountRecord) : (s.scanDecide m).values = s.values := by
  unfold State.scanDecide
  repeat' split
  all_goals simp
@[simp] theorem State.scanDecide_pending (s : State) (m : MountRecord) : (s.scanDecide m).pending = s.pending := by
  unfold State.scanDecide
  repeat' split
  all_goals simp

/-! ## scanFrom -/

@[simp] theorem State.scanFrom_now (s : State) (m : MountRecord) (j : Nat) : (s.scanFrom m j).now = s.now := by
  unfold State.scanFrom
  simp
@[simp] theorem State.scanFrom_port (s : State) (m : MountRecord) (j : Nat) : (s.scanFrom m j).port = s.port := by
  unfold State.scanFrom
  simp
@[simp] theorem State.scanFrom_staging (s : State) (m : MountRecord) (j : Nat) :
    (s.scanFrom m j).staging = s.staging := by
  unfold State.scanFrom
  simp
@[simp] theorem State.scanFrom_heldRun (s : State) (m : MountRecord) (j : Nat) :
    (s.scanFrom m j).heldRun = s.heldRun := by
  unfold State.scanFrom
  simp
@[simp] theorem State.scanFrom_timer (s : State) (m : MountRecord) (j : Nat) : (s.scanFrom m j).timer = s.timer := by
  unfold State.scanFrom
  simp
@[simp] theorem State.scanFrom_engine (s : State) (m : MountRecord) (j : Nat) :
    (s.scanFrom m j).engine = s.engine := by
  unfold State.scanFrom
  simp
@[simp] theorem State.scanFrom_tables (s : State) (m : MountRecord) (j : Nat) :
    (s.scanFrom m j).tables = s.tables := by
  unfold State.scanFrom
  simp
@[simp] theorem State.scanFrom_journal (s : State) (m : MountRecord) (j : Nat) :
    (s.scanFrom m j).journal = s.journal := by
  unfold State.scanFrom
  simp
@[simp] theorem State.scanFrom_pool (s : State) (m : MountRecord) (j : Nat) : (s.scanFrom m j).pool = s.pool := by
  unfold State.scanFrom
  simp
@[simp] theorem State.scanFrom_values (s : State) (m : MountRecord) (j : Nat) :
    (s.scanFrom m j).values = s.values := by
  unfold State.scanFrom
  simp
@[simp] theorem State.scanFrom_pending (s : State) (m : MountRecord) (j : Nat) :
    (s.scanFrom m j).pending = s.pending := by
  unfold State.scanFrom
  simp

/-! ## scanRead -/

@[simp] theorem State.scanRead_now (s : State) (m : MountRecord) (bytes : List Byte) :
    (s.scanRead m bytes).now = s.now := by
  unfold State.scanRead
  dsimp only
  repeat' split
  all_goals simp
@[simp] theorem State.scanRead_values (s : State) (m : MountRecord) (bytes : List Byte) :
    (s.scanRead m bytes).values = s.values := by
  unfold State.scanRead
  dsimp only
  repeat' split
  all_goals simp
@[simp] theorem State.scanRead_pending (s : State) (m : MountRecord) (bytes : List Byte) :
    (s.scanRead m bytes).pending = s.pending := by
  unfold State.scanRead
  dsimp only
  repeat' split
  all_goals simp

/-! ## recordRead -/

@[simp] theorem State.recordRead_now (s : State) (bytes : List Byte) : (s.recordRead bytes).now = s.now := by
  unfold State.recordRead
  simp
@[simp] theorem State.recordRead_engine (s : State) (bytes : List Byte) : (s.recordRead bytes).engine = s.engine := by
  unfold State.recordRead
  simp
@[simp] theorem State.recordRead_tables (s : State) (bytes : List Byte) : (s.recordRead bytes).tables = s.tables := by
  unfold State.recordRead
  simp
@[simp] theorem State.recordRead_journal (s : State) (bytes : List Byte) :
    (s.recordRead bytes).journal = s.journal := by
  unfold State.recordRead
  simp
@[simp] theorem State.recordRead_pending (s : State) (bytes : List Byte) :
    (s.recordRead bytes).pending = s.pending := by
  unfold State.recordRead
  simp

/-! ## formatOp -/

@[simp] theorem State.formatOp_now (s : State) (m : MountRecord) (stage : FormatStage) (o : FlashOp) :
    (s.formatOp m stage o).now = s.now := by
  unfold State.formatOp
  simp
@[simp] theorem State.formatOp_port (s : State) (m : MountRecord) (stage : FormatStage) (o : FlashOp) :
    (s.formatOp m stage o).port = s.port := by
  unfold State.formatOp
  simp
@[simp] theorem State.formatOp_staging (s : State) (m : MountRecord) (stage : FormatStage) (o : FlashOp) :
    (s.formatOp m stage o).staging = s.staging := by
  unfold State.formatOp
  simp
@[simp] theorem State.formatOp_heldRun (s : State) (m : MountRecord) (stage : FormatStage) (o : FlashOp) :
    (s.formatOp m stage o).heldRun = s.heldRun := by
  unfold State.formatOp
  simp
@[simp] theorem State.formatOp_timer (s : State) (m : MountRecord) (stage : FormatStage) (o : FlashOp) :
    (s.formatOp m stage o).timer = s.timer := by
  unfold State.formatOp
  simp
@[simp] theorem State.formatOp_engine (s : State) (m : MountRecord) (stage : FormatStage) (o : FlashOp) :
    (s.formatOp m stage o).engine = s.engine := by
  unfold State.formatOp
  simp
@[simp] theorem State.formatOp_tables (s : State) (m : MountRecord) (stage : FormatStage) (o : FlashOp) :
    (s.formatOp m stage o).tables = s.tables := by
  unfold State.formatOp
  simp
@[simp] theorem State.formatOp_journal (s : State) (m : MountRecord) (stage : FormatStage) (o : FlashOp) :
    (s.formatOp m stage o).journal = s.journal := by
  unfold State.formatOp
  simp
@[simp] theorem State.formatOp_pool (s : State) (m : MountRecord) (stage : FormatStage) (o : FlashOp) :
    (s.formatOp m stage o).pool = s.pool := by
  unfold State.formatOp
  simp
@[simp] theorem State.formatOp_values (s : State) (m : MountRecord) (stage : FormatStage) (o : FlashOp) :
    (s.formatOp m stage o).values = s.values := by
  unfold State.formatOp
  simp
@[simp] theorem State.formatOp_pending (s : State) (m : MountRecord) (stage : FormatStage) (o : FlashOp) :
    (s.formatOp m stage o).pending = s.pending := by
  unfold State.formatOp
  simp

/-! ## beginFormatOpening -/

@[simp] theorem State.beginFormatOpening_now (s : State) (m : MountRecord) :
    (s.beginFormatOpening m).now = s.now := by
  unfold State.beginFormatOpening
  dsimp only
  repeat' split
  all_goals simp
@[simp] theorem State.beginFormatOpening_values (s : State) (m : MountRecord) :
    (s.beginFormatOpening m).values = s.values := by
  unfold State.beginFormatOpening
  dsimp only
  repeat' split
  all_goals simp
@[simp] theorem State.beginFormatOpening_pending (s : State) (m : MountRecord) :
    (s.beginFormatOpening m).pending = s.pending := by
  unfold State.beginFormatOpening
  dsimp only
  repeat' split
  all_goals simp

/-! ## formatData -/

@[simp] theorem State.formatData_now (s : State) (m : MountRecord) (p : Nat) : (s.formatData m p).now = s.now := by
  unfold State.formatData
  repeat' split
  all_goals simp
@[simp] theorem State.formatData_values (s : State) (m : MountRecord) (p : Nat) :
    (s.formatData m p).values = s.values := by
  unfold State.formatData
  repeat' split
  all_goals simp
@[simp] theorem State.formatData_pending (s : State) (m : MountRecord) (p : Nat) :
    (s.formatData m p).pending = s.pending := by
  unfold State.formatData
  repeat' split
  all_goals simp

/-! ## formatJournal -/

@[simp] theorem State.formatJournal_now (s : State) (m : MountRecord) (j : Nat) :
    (s.formatJournal m j).now = s.now := by
  unfold State.formatJournal
  repeat' split
  all_goals simp
@[simp] theorem State.formatJournal_values (s : State) (m : MountRecord) (j : Nat) :
    (s.formatJournal m j).values = s.values := by
  unfold State.formatJournal
  repeat' split
  all_goals simp
@[simp] theorem State.formatJournal_pending (s : State) (m : MountRecord) (j : Nat) :
    (s.formatJournal m j).pending = s.pending := by
  unfold State.formatJournal
  repeat' split
  all_goals simp

/-! ## formatEraseEnd -/

@[simp] theorem State.formatEraseEnd_now (s : State) (fail : Bool) : (s.formatEraseEnd fail).now = s.now := by
  unfold State.formatEraseEnd
  repeat' split
  all_goals simp
@[simp] theorem State.formatEraseEnd_values (s : State) (fail : Bool) :
    (s.formatEraseEnd fail).values = s.values := by
  unfold State.formatEraseEnd
  repeat' split
  all_goals simp
@[simp] theorem State.formatEraseEnd_pending (s : State) (fail : Bool) :
    (s.formatEraseEnd fail).pending = s.pending := by
  unfold State.formatEraseEnd
  repeat' split
  all_goals simp

/-! ## formatHeadRead -/

@[simp] theorem State.formatHeadRead_now (s : State) (m : MountRecord) (j : Nat) (bytes : List Byte) :
    (s.formatHeadRead m j bytes).now = s.now := by
  unfold State.formatHeadRead
  repeat' split
  all_goals simp
@[simp] theorem State.formatHeadRead_values (s : State) (m : MountRecord) (j : Nat) (bytes : List Byte) :
    (s.formatHeadRead m j bytes).values = s.values := by
  unfold State.formatHeadRead
  repeat' split
  all_goals simp
@[simp] theorem State.formatHeadRead_pending (s : State) (m : MountRecord) (j : Nat) (bytes : List Byte) :
    (s.formatHeadRead m j bytes).pending = s.pending := by
  unfold State.formatHeadRead
  repeat' split
  all_goals simp

/-! ## formatProgramEnd -/

@[simp] theorem State.formatProgramEnd_now (s : State) : s.formatProgramEnd.now = s.now := by
  unfold State.formatProgramEnd
  repeat' split
  all_goals simp
@[simp] theorem State.formatProgramEnd_port (s : State) : s.formatProgramEnd.port = s.port := by
  unfold State.formatProgramEnd
  repeat' split
  all_goals simp
@[simp] theorem State.formatProgramEnd_staging (s : State) : s.formatProgramEnd.staging = s.staging := by
  unfold State.formatProgramEnd
  repeat' split
  all_goals simp
@[simp] theorem State.formatProgramEnd_heldRun (s : State) : s.formatProgramEnd.heldRun = s.heldRun := by
  unfold State.formatProgramEnd
  repeat' split
  all_goals simp
@[simp] theorem State.formatProgramEnd_timer (s : State) : s.formatProgramEnd.timer = s.timer := by
  unfold State.formatProgramEnd
  repeat' split
  all_goals simp
@[simp] theorem State.formatProgramEnd_engine (s : State) : s.formatProgramEnd.engine = s.engine := by
  unfold State.formatProgramEnd
  repeat' split
  all_goals simp
@[simp] theorem State.formatProgramEnd_tables (s : State) : s.formatProgramEnd.tables = s.tables := by
  unfold State.formatProgramEnd
  repeat' split
  all_goals simp
@[simp] theorem State.formatProgramEnd_journal (s : State) : s.formatProgramEnd.journal = s.journal := by
  unfold State.formatProgramEnd
  repeat' split
  all_goals simp
@[simp] theorem State.formatProgramEnd_pool (s : State) : s.formatProgramEnd.pool = s.pool := by
  unfold State.formatProgramEnd
  repeat' split
  all_goals simp
@[simp] theorem State.formatProgramEnd_values (s : State) : s.formatProgramEnd.values = s.values := by
  unfold State.formatProgramEnd
  repeat' split
  all_goals simp
@[simp] theorem State.formatProgramEnd_pending (s : State) : s.formatProgramEnd.pending = s.pending := by
  unfold State.formatProgramEnd
  repeat' split
  all_goals simp

/-! ## formatReadBackEnd -/

@[simp] theorem State.formatReadBackEnd_now (s : State) (bytes : List Byte) :
    (s.formatReadBackEnd bytes).now = s.now := by
  unfold State.formatReadBackEnd
  repeat' split
  all_goals simp
@[simp] theorem State.formatReadBackEnd_values (s : State) (bytes : List Byte) :
    (s.formatReadBackEnd bytes).values = s.values := by
  unfold State.formatReadBackEnd
  repeat' split
  all_goals simp
@[simp] theorem State.formatReadBackEnd_pending (s : State) (bytes : List Byte) :
    (s.formatReadBackEnd bytes).pending = s.pending := by
  unfold State.formatReadBackEnd
  repeat' split
  all_goals simp

/-! ## mountReadDone -/

@[simp] theorem State.mountReadDone_now (s : State) (bytes : List Byte) : (s.mountReadDone bytes).now = s.now := by
  unfold State.mountReadDone
  dsimp only
  repeat' split
  all_goals simp
@[simp] theorem State.mountReadDone_pending (s : State) (bytes : List Byte) :
    (s.mountReadDone bytes).pending = s.pending := by
  unfold State.mountReadDone
  dsimp only
  repeat' split
  all_goals simp

/-! ## beginMount -/

@[simp] theorem State.beginMount_now (s : State) : s.beginMount.now = s.now := by
  unfold State.beginMount
  simp
@[simp] theorem State.beginMount_port (s : State) : s.beginMount.port = s.port := by
  unfold State.beginMount
  simp
@[simp] theorem State.beginMount_staging (s : State) : s.beginMount.staging = s.staging := by
  unfold State.beginMount
  simp
@[simp] theorem State.beginMount_heldRun (s : State) : s.beginMount.heldRun = s.heldRun := by
  unfold State.beginMount
  simp
@[simp] theorem State.beginMount_timer (s : State) : s.beginMount.timer = s.timer := by
  unfold State.beginMount
  simp
@[simp] theorem State.beginMount_engine (s : State) : s.beginMount.engine = s.engine := by
  unfold State.beginMount
  simp
@[simp] theorem State.beginMount_tables (s : State) : s.beginMount.tables = s.tables := by
  unfold State.beginMount
  simp
@[simp] theorem State.beginMount_journal (s : State) : s.beginMount.journal = s.journal := by
  unfold State.beginMount
  simp
@[simp] theorem State.beginMount_pool (s : State) : s.beginMount.pool = s.pool := by
  unfold State.beginMount
  simp
@[simp] theorem State.beginMount_values (s : State) : s.beginMount.values = s.values := by
  unfold State.beginMount
  simp
@[simp] theorem State.beginMount_pending (s : State) : s.beginMount.pending = s.pending := by
  unfold State.beginMount
  simp

/-! ## sampleAt -/

@[simp] theorem State.sampleAt_now (s : State) (wide fmt svc pwrwarnn rstnLow internalReset : Bool) :
    (s.sampleAt wide fmt svc pwrwarnn rstnLow internalReset).now = s.now := by
  unfold State.sampleAt
  dsimp only
  repeat' split
  all_goals simp
@[simp] theorem State.sampleAt_port (s : State) (wide fmt svc pwrwarnn rstnLow internalReset : Bool) :
    (s.sampleAt wide fmt svc pwrwarnn rstnLow internalReset).port = s.port := by
  unfold State.sampleAt
  dsimp only
  repeat' split
  all_goals simp
@[simp] theorem State.sampleAt_staging (s : State) (wide fmt svc pwrwarnn rstnLow internalReset : Bool) :
    (s.sampleAt wide fmt svc pwrwarnn rstnLow internalReset).staging = s.staging := by
  unfold State.sampleAt
  dsimp only
  repeat' split
  all_goals simp
@[simp] theorem State.sampleAt_heldRun (s : State) (wide fmt svc pwrwarnn rstnLow internalReset : Bool) :
    (s.sampleAt wide fmt svc pwrwarnn rstnLow internalReset).heldRun = s.heldRun := by
  unfold State.sampleAt
  dsimp only
  repeat' split
  all_goals simp
@[simp] theorem State.sampleAt_timer (s : State) (wide fmt svc pwrwarnn rstnLow internalReset : Bool) :
    (s.sampleAt wide fmt svc pwrwarnn rstnLow internalReset).timer = s.timer := by
  unfold State.sampleAt
  dsimp only
  repeat' split
  all_goals simp
@[simp] theorem State.sampleAt_engine (s : State) (wide fmt svc pwrwarnn rstnLow internalReset : Bool) :
    (s.sampleAt wide fmt svc pwrwarnn rstnLow internalReset).engine = s.engine := by
  unfold State.sampleAt
  dsimp only
  repeat' split
  all_goals simp
@[simp] theorem State.sampleAt_tables (s : State) (wide fmt svc pwrwarnn rstnLow internalReset : Bool) :
    (s.sampleAt wide fmt svc pwrwarnn rstnLow internalReset).tables = s.tables := by
  unfold State.sampleAt
  dsimp only
  repeat' split
  all_goals simp
@[simp] theorem State.sampleAt_journal (s : State) (wide fmt svc pwrwarnn rstnLow internalReset : Bool) :
    (s.sampleAt wide fmt svc pwrwarnn rstnLow internalReset).journal = s.journal := by
  unfold State.sampleAt
  dsimp only
  repeat' split
  all_goals simp
@[simp] theorem State.sampleAt_pool (s : State) (wide fmt svc pwrwarnn rstnLow internalReset : Bool) :
    (s.sampleAt wide fmt svc pwrwarnn rstnLow internalReset).pool = s.pool := by
  unfold State.sampleAt
  dsimp only
  repeat' split
  all_goals simp
@[simp] theorem State.sampleAt_values (s : State) (wide fmt svc pwrwarnn rstnLow internalReset : Bool) :
    (s.sampleAt wide fmt svc pwrwarnn rstnLow internalReset).values = s.values := by
  unfold State.sampleAt
  dsimp only
  repeat' split
  all_goals simp
@[simp] theorem State.sampleAt_pending (s : State) (wide fmt svc pwrwarnn rstnLow internalReset : Bool) :
    (s.sampleAt wide fmt svc pwrwarnn rstnLow internalReset).pending = s.pending := by
  unfold State.sampleAt
  dsimp only
  repeat' split
  all_goals simp

/-! ## mountStep -/

@[simp] theorem State.mountStep_now (s : State) (step : MountStep) : (s.mountStep step).now = s.now := by
  unfold State.mountStep
  simp
@[simp] theorem State.mountStep_port (s : State) (step : MountStep) : (s.mountStep step).port = s.port := by
  unfold State.mountStep
  simp
@[simp] theorem State.mountStep_staging (s : State) (step : MountStep) : (s.mountStep step).staging = s.staging := by
  unfold State.mountStep
  simp
@[simp] theorem State.mountStep_heldRun (s : State) (step : MountStep) : (s.mountStep step).heldRun = s.heldRun := by
  unfold State.mountStep
  simp
@[simp] theorem State.mountStep_timer (s : State) (step : MountStep) : (s.mountStep step).timer = s.timer := by
  unfold State.mountStep
  simp
@[simp] theorem State.mountStep_engine (s : State) (step : MountStep) : (s.mountStep step).engine = s.engine := by
  unfold State.mountStep
  simp
@[simp] theorem State.mountStep_tables (s : State) (step : MountStep) : (s.mountStep step).tables = s.tables := by
  unfold State.mountStep
  simp
@[simp] theorem State.mountStep_journal (s : State) (step : MountStep) : (s.mountStep step).journal = s.journal := by
  unfold State.mountStep
  simp
@[simp] theorem State.mountStep_pool (s : State) (step : MountStep) : (s.mountStep step).pool = s.pool := by
  unfold State.mountStep
  simp
@[simp] theorem State.mountStep_link (s : State) (step : MountStep) : (s.mountStep step).link = s.link := by
  unfold State.mountStep
  simp
@[simp] theorem State.mountStep_values (s : State) (step : MountStep) : (s.mountStep step).values = s.values := by
  unfold State.mountStep
  simp
@[simp] theorem State.mountStep_wire (s : State) (step : MountStep) : (s.mountStep step).wire = s.wire := by
  unfold State.mountStep
  simp
@[simp] theorem State.mountStep_pending (s : State) (step : MountStep) : (s.mountStep step).pending = s.pending := by
  unfold State.mountStep
  simp

/-! ## grantRun -/

@[simp] theorem State.grantRun_now (s : State) (r : Run) : (s.grantRun r).now = s.now := by
  unfold State.grantRun
  simp
@[simp] theorem State.grantRun_port (s : State) (r : Run) : (s.grantRun r).port = s.port := by
  unfold State.grantRun
  simp
@[simp] theorem State.grantRun_staging (s : State) (r : Run) : (s.grantRun r).staging = s.staging := by
  unfold State.grantRun
  simp
@[simp] theorem State.grantRun_heldRun (s : State) (r : Run) : (s.grantRun r).heldRun = s.heldRun := by
  unfold State.grantRun
  simp
@[simp] theorem State.grantRun_timer (s : State) (r : Run) : (s.grantRun r).timer = s.timer := by
  unfold State.grantRun
  simp
@[simp] theorem State.grantRun_engine (s : State) (r : Run) : (s.grantRun r).engine = s.engine := by
  unfold State.grantRun
  simp
@[simp] theorem State.grantRun_tables (s : State) (r : Run) : (s.grantRun r).tables = s.tables := by
  unfold State.grantRun
  simp
@[simp] theorem State.grantRun_journal (s : State) (r : Run) : (s.grantRun r).journal = s.journal := by
  unfold State.grantRun
  simp
@[simp] theorem State.grantRun_pool (s : State) (r : Run) : (s.grantRun r).pool = s.pool := by
  unfold State.grantRun
  simp
@[simp] theorem State.grantRun_ctl (s : State) (r : Run) : (s.grantRun r).ctl = s.ctl := by
  unfold State.grantRun
  simp
@[simp] theorem State.grantRun_values (s : State) (r : Run) : (s.grantRun r).values = s.values := by
  unfold State.grantRun
  simp
@[simp] theorem State.grantRun_pending (s : State) (r : Run) : (s.grantRun r).pending = s.pending := by
  unfold State.grantRun
  simp

/-! ## grantAllocationErase -/

@[simp] theorem State.grantAllocationErase_now (s : State) (p : Nat) : (s.grantAllocationErase p).now = s.now := by
  unfold State.grantAllocationErase
  repeat' split
  all_goals simp
@[simp] theorem State.grantAllocationErase_port (s : State) (p : Nat) : (s.grantAllocationErase p).port = s.port := by
  unfold State.grantAllocationErase
  repeat' split
  all_goals simp
@[simp] theorem State.grantAllocationErase_heldRun (s : State) (p : Nat) :
    (s.grantAllocationErase p).heldRun = s.heldRun := by
  unfold State.grantAllocationErase
  repeat' split
  all_goals simp
@[simp] theorem State.grantAllocationErase_journal (s : State) (p : Nat) :
    (s.grantAllocationErase p).journal = s.journal := by
  unfold State.grantAllocationErase
  repeat' split
  all_goals simp
@[simp] theorem State.grantAllocationErase_ctl (s : State) (p : Nat) : (s.grantAllocationErase p).ctl = s.ctl := by
  unfold State.grantAllocationErase
  repeat' split
  all_goals simp
@[simp] theorem State.grantAllocationErase_values (s : State) (p : Nat) :
    (s.grantAllocationErase p).values = s.values := by
  unfold State.grantAllocationErase
  repeat' split
  all_goals simp
@[simp] theorem State.grantAllocationErase_pending (s : State) (p : Nat) :
    (s.grantAllocationErase p).pending = s.pending := by
  unfold State.grantAllocationErase
  repeat' split
  all_goals simp

/-! ## grantCommit -/

@[simp] theorem State.grantCommit_now (s : State) (user : LinkUser) (o : FlashOp) :
    (s.grantCommit user o).now = s.now := by
  unfold State.grantCommit
  dsimp only
  repeat' split
  all_goals simp
@[simp] theorem State.grantCommit_port (s : State) (user : LinkUser) (o : FlashOp) :
    (s.grantCommit user o).port = s.port := by
  unfold State.grantCommit
  dsimp only
  repeat' split
  all_goals simp
@[simp] theorem State.grantCommit_heldRun (s : State) (user : LinkUser) (o : FlashOp) :
    (s.grantCommit user o).heldRun = s.heldRun := by
  unfold State.grantCommit
  dsimp only
  repeat' split
  all_goals simp
@[simp] theorem State.grantCommit_journal (s : State) (user : LinkUser) (o : FlashOp) :
    (s.grantCommit user o).journal = s.journal := by
  unfold State.grantCommit
  dsimp only
  repeat' split
  all_goals simp
@[simp] theorem State.grantCommit_ctl (s : State) (user : LinkUser) (o : FlashOp) :
    (s.grantCommit user o).ctl = s.ctl := by
  unfold State.grantCommit
  dsimp only
  repeat' split
  all_goals simp
@[simp] theorem State.grantCommit_values (s : State) (user : LinkUser) (o : FlashOp) :
    (s.grantCommit user o).values = s.values := by
  unfold State.grantCommit
  dsimp only
  repeat' split
  all_goals simp
@[simp] theorem State.grantCommit_pending (s : State) (user : LinkUser) (o : FlashOp) :
    (s.grantCommit user o).pending = s.pending := by
  unfold State.grantCommit
  dsimp only
  repeat' split
  all_goals simp

/-! ## beginGranted -/

@[simp] theorem State.beginGranted_now (s : State) : s.beginGranted.now = s.now := by
  unfold State.beginGranted
  dsimp only
  repeat' split
  all_goals simp
@[simp] theorem State.beginGranted_port (s : State) : s.beginGranted.port = s.port := by
  unfold State.beginGranted
  dsimp only
  repeat' split
  all_goals simp
@[simp] theorem State.beginGranted_heldRun (s : State) : s.beginGranted.heldRun = s.heldRun := by
  unfold State.beginGranted
  dsimp only
  repeat' split
  all_goals simp
@[simp] theorem State.beginGranted_journal (s : State) : s.beginGranted.journal = s.journal := by
  unfold State.beginGranted
  dsimp only
  repeat' split
  all_goals simp
@[simp] theorem State.beginGranted_ctl (s : State) : s.beginGranted.ctl = s.ctl := by
  unfold State.beginGranted
  dsimp only
  repeat' split
  all_goals simp
@[simp] theorem State.beginGranted_values (s : State) : s.beginGranted.values = s.values := by
  unfold State.beginGranted
  dsimp only
  repeat' split
  all_goals simp
@[simp] theorem State.beginGranted_pending (s : State) : s.beginGranted.pending = s.pending := by
  unfold State.beginGranted
  dsimp only
  repeat' split
  all_goals simp

/-! ## programOutcome -/

@[simp] theorem State.programOutcome_now (s : State) (user : LinkUser) (fail : Bool) :
    (s.programOutcome user fail).now = s.now := by
  unfold State.programOutcome
  repeat' split
  all_goals simp
@[simp] theorem State.programOutcome_values (s : State) (user : LinkUser) (fail : Bool) :
    (s.programOutcome user fail).values = s.values := by
  unfold State.programOutcome
  repeat' split
  all_goals simp
@[simp] theorem State.programOutcome_pending (s : State) (user : LinkUser) (fail : Bool) :
    (s.programOutcome user fail).pending = s.pending := by
  unfold State.programOutcome
  repeat' split
  all_goals simp

/-! ## readBackOutcome -/

@[simp] theorem State.readBackOutcome_now (s : State) (user : LinkUser) (bytes : List Byte) :
    (s.readBackOutcome user bytes).now = s.now := by
  unfold State.readBackOutcome
  repeat' split
  all_goals simp
@[simp] theorem State.readBackOutcome_values (s : State) (user : LinkUser) (bytes : List Byte) :
    (s.readBackOutcome user bytes).values = s.values := by
  unfold State.readBackOutcome
  repeat' split
  all_goals simp
@[simp] theorem State.readBackOutcome_pending (s : State) (user : LinkUser) (bytes : List Byte) :
    (s.readBackOutcome user bytes).pending = s.pending := by
  unfold State.readBackOutcome
  repeat' split
  all_goals simp

/-! ## eraseOutcome -/

@[simp] theorem State.eraseOutcome_now (s : State) (user : LinkUser) (sector : Nat) (fail : Bool) :
    (s.eraseOutcome user sector fail).now = s.now := by
  unfold State.eraseOutcome
  repeat' split
  all_goals simp
@[simp] theorem State.eraseOutcome_values (s : State) (user : LinkUser) (sector : Nat) (fail : Bool) :
    (s.eraseOutcome user sector fail).values = s.values := by
  unfold State.eraseOutcome
  repeat' split
  all_goals simp
@[simp] theorem State.eraseOutcome_pending (s : State) (user : LinkUser) (sector : Nat) (fail : Bool) :
    (s.eraseOutcome user sector fail).pending = s.pending := by
  unfold State.eraseOutcome
  repeat' split
  all_goals simp

/-! ## endErase -/

@[simp] theorem State.endErase_now (s : State) (e : EraseRecord) (st : Byte) : (s.endErase e st).now = s.now := by
  unfold State.endErase
  simp
@[simp] theorem State.endErase_values (s : State) (e : EraseRecord) (st : Byte) :
    (s.endErase e st).values = s.values := by
  unfold State.endErase
  simp
@[simp] theorem State.endErase_pending (s : State) (e : EraseRecord) (st : Byte) :
    (s.endErase e st).pending = s.pending := by
  unfold State.endErase
  simp

/-! ## powerDown -/

@[simp] theorem State.powerDown_now (s : State) : s.powerDown.now = s.now := by
  unfold State.powerDown
  simp
@[simp] theorem State.powerDown_port (s : State) : s.powerDown.port = s.port := by
  unfold State.powerDown
  simp
@[simp] theorem State.powerDown_staging (s : State) : s.powerDown.staging = s.staging := by
  unfold State.powerDown
  simp
@[simp] theorem State.powerDown_heldRun (s : State) : s.powerDown.heldRun = s.heldRun := by
  unfold State.powerDown
  simp
@[simp] theorem State.powerDown_timer (s : State) : s.powerDown.timer = s.timer := by
  unfold State.powerDown
  simp
@[simp] theorem State.powerDown_engine (s : State) : s.powerDown.engine = s.engine := by
  unfold State.powerDown
  simp
@[simp] theorem State.powerDown_tables (s : State) : s.powerDown.tables = s.tables := by
  unfold State.powerDown
  simp
@[simp] theorem State.powerDown_journal (s : State) : s.powerDown.journal = s.journal := by
  unfold State.powerDown
  simp
@[simp] theorem State.powerDown_pool (s : State) : s.powerDown.pool = s.pool := by
  unfold State.powerDown
  simp
@[simp] theorem State.powerDown_ctl (s : State) : s.powerDown.ctl = s.ctl := by
  unfold State.powerDown
  simp
@[simp] theorem State.powerDown_values (s : State) : s.powerDown.values = s.values := by
  unfold State.powerDown
  simp
@[simp] theorem State.powerDown_pending (s : State) : s.powerDown.pending = s.pending := by
  unfold State.powerDown
  simp

end

end Sys2Proof.Machine
end

