-- ==== Sys2Proof/Laws/Ops.lean ====
section
/-! SUPPORT. Ops.lean: for each shared operation one lemma that says what it does, so that a proof cites it in place of the
definition. -/

namespace Sys2Proof.Machine

/-! ## Slots, records, map entries -/

/-- A slot read after a slot is replaced. -/
theorem Staging.slot_setSlot (g : Staging) (i k : Nat) (x : Slot) :
    (g.setSlot i x).slot k = if i = k ∧ k < 16 then x else g.slot k := by
  by_cases h : i = k
  · subst h; by_cases hi : i < 16 <;> simp [Staging.slot, Staging.setSlot, hi, Config.slotCount]
  · simp [Staging.slot, Staging.setSlot, h]

/-- A record read after a record is replaced. -/
theorem Tables.record_setRecord (t : Tables) (p q : Nat) (r : SectorRecord) :
    (t.setRecord p r).record q = if p = q ∧ q < 512 then r else t.record q := by
  by_cases h : p = q
  · subst h; by_cases hp : p < 512 <;> simp [Tables.record, Tables.setRecord, hp, Config.physicalSectors]
  · simp [Tables.record, Tables.setRecord, h]

/-- A map entry read after an entry is replaced. -/
theorem Tables.entry_setEntry (t : Tables) (l k p : Nat) :
    (t.setEntry l p).entry k = if l = k ∧ k < 256 then some p else t.entry k := by
  by_cases h : l = k
  · subst h; by_cases hl : l < 256 <;> simp [Tables.entry, Tables.setEntry, hl, Config.logicalSectors]
  · simp [Tables.entry, Tables.setEntry, h]

/-- A byte of a slot read after a byte is put into it. -/
theorem Slot.byte_put (x : Slot) (o k : Nat) (v : Byte) :
    (x.put o v).byte k = if o = k ∧ k < 256 then some v else x.byte k := by
  by_cases h : o = k
  · subst h; by_cases ho : o < 256 <;> simp [Slot.byte, Slot.put, ho, Config.pageBytes]
  · simp [Slot.byte, Slot.put, h]

/-- A slot freed is FREE with nothing written; its data bytes stay. -/
theorem Slot.freed_eq (x : Slot) :
    x.freed = { x with state := .free, page := none, written := Vector.replicate _ false, rank := none } := rfl

/-! ## The host cycle -/

/-- Error termination of the cycle c in progress. -/
theorem State.errorTerminate_eq (s : State) (c : Cycle) (h : s.port.cycle = some c) :
    s.errorTerminate = s.withPort (s.port.refused c s.ctl.wide) := by
  simp [State.errorTerminate, HostPort.errorTerminate, HostPort.refused, h]

/-- The normal answer to a write cycle c in progress. -/
theorem State.answer_write (s : State) (c : Cycle) (values : List Byte) (h : s.port.cycle = some c) (hr : c.isRead = false) :
    s.answer values = s.withPort (s.port.accepted c) := by
  simp [State.answer, HostPort.answer, HostPort.accepted, h, hr]

/-! ## The link -/

/-- An open stream is closed by one event; a closed one is left. -/
theorem State.closeStream_eq (s : State) :
    s.closeStream =
      { s with
        link := { s.link with stream := none }
        wire := s.wire ++ if s.link.stream.isSome then [.closeStream] else [] } := by
  cases h : s.link.stream <;> simp [State.closeStream, h, State.withLink, State.drive]
  rw [← h]

/-- POWER_DOWN: the stream closed, the power state DOWN. -/
theorem State.powerDown_eq (s : State) :
    s.powerDown =
      { s with
        link := { s.link with stream := none, power := .down }
        wire := s.wire ++ ((if s.link.stream.isSome then [.closeStream] else []) ++ [.powerDown]) } := by
  simp [State.powerDown, State.closeStream_eq, State.drive, State.withPower, State.withLink]

/-- An operation granted to a flash that needs a wake: POWER_UP, and the operation in its wake interval. -/
theorem State.startOp_asleep (s : State) (user : LinkUser) (o : FlashOp) (h : s.link.power.needsWake = true) (ho : o ≠ .wake) :
    s.startOp user o =
      { s with
        link :=
          { s.link with stream := none, power := .waking, op := some { user := user, op := o, stage := .waking s.now } }
        wire := s.wire ++ ((if s.link.stream.isSome then [.closeStream] else []) ++ [.powerUp]) } := by
  simp [State.startOp, h, ho, State.closeStream_eq, State.drive, State.withPower, State.setOp, State.withOp, State.withLink]

/-- An operation other than a host read run, granted to an awake flash, closes the stream and issues its first command. -/
theorem State.startOp_read (s : State) (user : LinkUser) (o : FlashOp) (addr len : Nat) (h : s.link.power = .awake)
    (ho : o = .pageRead addr ∧ len = 256 ∨ o = .readBack addr len ∨ o = .mountRead addr len) :
    s.startOp user o =
      { s with
        link := { s.link with stream := none, op := some { user := user, op := o, stage := .reading } }
        wire := s.wire ++ ((if s.link.stream.isSome then [.closeStream] else []) ++ [.read addr len]) } := by
  rcases ho with ⟨rfl, rfl⟩ | rfl | rfl <;>
    simp [State.startOp, h, PowerState.needsWake, State.firstCommand, State.beginRead, State.closeStream_eq, State.drive,
      State.setOp, State.withOp, State.withLink]

/-- While an operation is in progress no request is granted. -/
theorem State.award_busy (s : State) (h : s.link.op ≠ none) : s.award = none := by
  simp [State.award, Option.isSome_iff_ne_none, h]

/-- The request first in line stands outstanding. -/
theorem State.firstInLine_holds (s : State) (l : Level) (h : s.firstInLine = some l) : s.link.requests.holds l = true :=
  (Option.filter_eq_some_iff.mp h).2

/-- What the arbiter grants on a link with no operation in progress: nothing when no request is outstanding that may be granted, else
a request that stands outstanding. -/
theorem State.award_holds (s : State) (l : Level) (h : s.award = some l) :
    s.link.op = none ∧ s.link.requests.holds l = true := by
  unfold State.award at h
  split at h
  · simp at h
  · rename_i ho
    refine ⟨by simpa using ho, ?_⟩
    split at h
    · rename_i hg; rw [h] at hg; simpa using hg
    · split at h
      · split at h
        · rename_i hr; obtain rfl := Option.some.inj h; exact hr
        · simp at h
      · exact s.firstInLine_holds l h

/-- A grant made stands while its request does. -/
theorem State.award_stands (s : State) (l : Level) (ho : s.link.op = none) (hg : s.link.granted = some l)
    (hl : s.link.requests.holds l = true) : s.award = some l := by
  simp [State.award, ho, hg, hl]

/-- A grant that stands is one whose request is held: with none made, or its request withdrawn, no grant stands. -/
theorem State.noGrant_any (s : State) (hg : ∀ l, s.link.granted = some l → s.link.requests.holds l = false) :
    s.link.granted.any s.link.requests.holds = false := by
  cases h : s.link.granted <;> simp [hg, h]

/-- On a free link where no grant stands the request first in line is granted. -/
theorem State.award_free (s : State) (ho : s.link.op = none)
    (hg : ∀ l, s.link.granted = some l → s.link.requests.holds l = false) (hs : s.link.suspended = false) :
    s.award = s.firstInLine := by
  simp [State.award, ho, s.noGrant_any hg, hs]

/-- In a suspension where no grant stands only a host read run is granted (R120). -/
theorem State.award_suspended (s : State) (ho : s.link.op = none)
    (hg : ∀ l, s.link.granted = some l → s.link.requests.holds l = false) (hs : s.link.suspended = true) :
    s.award = if s.link.requests.hostRead.isSome then some .hostRead else none := by
  simp [State.award, ho, s.noGrant_any hg, hs]

/-- The end of a step with an operation in progress: no grant stands, no request changes. -/
theorem State.arbitrate_busy (s : State) (h : s.link.op ≠ none) :
    s.arbitrate = s.withLink { s.link with granted := none } := by
  simp [State.arbitrate, s.award_busy h]

/-! ## Turns and takes -/

/-- The end of the erase engine's turn: with work in READY the link requested again, else idle. -/
theorem State.endTurn_eq (s : State) :
    s.endTurn =
      if s.ctl.mode = .ready ∧ s.eraseWork = true then
        { s with
          pool := { s.pool with eraser := .requesting }
          link := { s.link with requests := { s.link.requests with erase := true } } }
      else { s with pool := { s.pool with eraser := .idle } } := by
  by_cases h : s.ctl.mode = .ready ∧ s.eraseWork = true <;>
    simp [State.endTurn, State.lookForWork, State.turnDue, State.eraseWork, State.firstDirty, State.withEraser, State.withPool,
      State.withRequests, State.withLink]

/-- A take asked for with none due changes nothing. -/
theorem State.takeJob_idle (s : State) (h : s.takeDue = false) : s.takeJob = s := by
  simp [State.takeJob, h]

/-- A take is due: no job, READY or DRAIN, and a slot in the queue. -/
theorem State.takeDue_iff (s : State) :
    s.takeDue = true ↔ s.engine.job = none ∧ (s.ctl.mode = .ready ∨ s.ctl.mode = .drain) ∧ s.staging.queue ≠ [] := by
  simp [State.takeDue, State.mayTake, and_assoc]

/-! ## Modes -/

/-- The drain's test: HALTED when the drain is finished, else nothing. -/
theorem State.drainTest_eq (s : State) :
    s.drainTest = if s.ctl.mode = .drain ∧ s.drained = true then s.withCtl { s.ctl with mode := .halted } else s := by
  by_cases h : s.ctl.mode = .drain <;> simp [State.drainTest, State.setMode, h]

/-- The degraded latch set: all that it changes. -/
theorem State.setLatch_eq (s : State) : s.setLatch = s.latched := by
  obtain ⟨now, port, ⟨slots, queue, waiting⟩, held, timer, engine, tables, journal, ⟨spares, eraser⟩,
    ⟨power, op, erasing, ⟨hostRead, commit, eraseJournal, erase⟩, granted, stream, doze⟩, ⟨mode, degraded, pw, w, f, v, m, r, i⟩,
    values, wire, pending⟩ := s
  obtain ⟨latched, cycle, hwaitn, hfailn, low, high⟩ := port
  unfold State.setLatch State.latched
  cases degraded
  · cases mode <;> cases waiting <;> cases cycle <;> by_cases he : eraser = .requesting <;>
      simp [State.setMode, State.withCtl, he, State.failWaiting, State.withdrawErase, State.dropWaiting, State.errorTerminate,
        HostPort.errorTerminate, HostPort.refused, State.withStaging, State.withPort, State.withEraser, State.withPool,
        State.withRequests, State.withLink]
  · rfl

/-- The number of usable journal sectors, counted over their records. -/
theorem Tables.usableCount_flags (t : Tables) : usableCount t.usableFlags = (List.range 8).countP fun k => t.usable k := by
  have h : ∀ k ∈ List.range 8, flagAt t.usableFlags k = t.usable k := by
    intro k hk
    have hk := List.mem_range.mp hk
    interval_cases k <;> rfl
  exact List.countP_congr fun k hk => by rw [h k hk]

/-- A journal sector withdrawn while the map is in force. -/
theorem State.withdrawUsable_eq (s : State) (j : Nat) : s.withdrawUsable j = s.withdrawn j := by
  simp [State.withdrawUsable, State.withdrawn, State.setLatch_eq, Tables.usableCount_flags, Tables.setUsable, State.withTables]

/-- The change of the staging buffer reported: both counts stop when the FILLING count falls to 0. -/
theorem State.withStagingReport_eq (s : State) (g : Staging) :
    s.withStagingReport g =
      { s with
        staging := g
        timer := if s.staging.count .filling ≠ 0 ∧ g.count .filling = 0 then .stopped else s.timer } := by
  unfold State.withStagingReport
  split <;> simp_all [State.withStaging, State.withTimer]

/-- The entry to FAULT, with the doze count brought into line. -/
theorem State.enterFault_faulted (s : State) : s.Faulted s.enterFault.closeStep := by
  have port : s.closeStream.failHeldCycle.port =
      match s.port.cycle with
      | some c => if c.cond.held then s.port.refused c s.ctl.wide else s.port
      | none => s.port := by
    rw [State.closeStream_eq]
    cases h : s.port.cycle with
    | none => simp [State.failHeldCycle, h]
    | some c =>
      by_cases hh : c.cond.held = true <;>
        simp [State.failHeldCycle, h, hh, State.errorTerminate, HostPort.errorTerminate, HostPort.refused, State.withPort]
  have wire : s.closeStream.wire = if s.link.stream.isSome then s.wire ++ [.closeStream] else s.wire := by
    rw [State.closeStream_eq]; cases s.link.stream <;> simp
  have power : s.closeStream.link.power = s.link.power := by rw [State.closeStream_eq]
  have slots : ∀ i < 16, s.enterFault.staging.slot i = (s.staging.slot i).freed := by
    intro i hi
    simp [State.enterFault, Staging.discard, Staging.slot, hi, Config.slotCount]
  refine ⟨?_, ?_, ?_, ?_, ?_, ?_, ?_, ?_, ?_, ?_, ?_, ?_, ?_, ?_, ?_⟩
  · simp [State.enterFault]
  · intro c h hh; simp [State.enterFault, port, h, hh]
  · intro h
    simp only [State.enterFault, State.closeStep_port, port]
    cases h' : s.port.cycle with
    | none => rfl
    | some c => simp [h c h']
  · intro i hi
    simp [State.closeStep_staging, slots i hi, Slot.freed]
  · simp [State.enterFault, Staging.discard]
  · simp [State.enterFault]
  · simp [State.enterFault]
  · simp [State.enterFault]
  · simp [State.enterFault]
  · simp [State.enterFault]
  · simp [State.enterFault]
  · simp [State.enterFault, State.closeStep, State.refreshDoze, State.arbitrate, State.withLink, State.mayDoze, Link.reset,
      State.award, State.firstInLine, State.dueAt, State.takeDue, State.mayTake, Journal.dueFor, Journal.reset, Link.suspended,
      Requests.holds, Requests.empty, power]
  · simp [State.enterFault]
  · simp [State.enterFault, wire]
  · simp [State.enterFault]

/-! ## The erase engine's turn and the journal's candidates, in the terms of the statements -/

theorem State.eraseWork_iff (s : State) : s.eraseWork = true ↔ s.hasEraseWork := by
  simp [State.eraseWork, State.hasEraseWork, State.firstDirty, Tables.eligible, Config.journalSectors, or_comm]

/-- All that the end of a turn of the erase engine can do (R94, R95, R115). -/
theorem State.endTurn_turnEnded (s : State) : s.TurnEnded s.endTurn := by
  constructor
  · intro h1 h2
    rw [State.endTurn_eq, if_pos ⟨h1, s.eraseWork_iff.mpr h2⟩]
  · intro h
    rw [State.endTurn_eq, if_neg]
    rintro ⟨h1, h2⟩
    exact h.elim (fun h => h h1) fun h => h (s.eraseWork_iff.mp h2)

theorem Tables.flagAt_usableFlags (t : Tables) (j : Nat) (h : j < 8) : flagAt t.usableFlags j = t.usable j := by
  interval_cases j <;> simp [flagAt, Tables.usableFlags]

/-- The next usable sector, as the openings of the map in force find it (R68). -/
theorem State.nextUsable_of_nextSector (s : State) (a c : Nat) (h : s.nextSector a c) : nextUsable s.tables.usableFlags a = some c := by
  obtain ⟨d, d1, d7, rfl, hu, hk⟩ := h
  have found : (List.range 7).find? (flagAt s.tables.usableFlags ∘ fun i => (a + 1 + i) % 8) = some (d - 1) := by
    rw [List.find?_range_eq_some]
    refine ⟨?_, List.mem_range.mpr (by omega), fun i hi => ?_⟩
    · rw [Function.comp, show a + 1 + (d - 1) = a + d by omega, Tables.flagAt_usableFlags _ _ (Nat.mod_lt _ (by decide)), hu]
    · rw [Function.comp, show a + 1 + i = a + (i + 1) by omega, Tables.flagAt_usableFlags _ _ (Nat.mod_lt _ (by decide)),
        hk (i + 1) (by omega) (by omega)]
      rfl
  simp only [nextUsable, ringAfter, List.find?_map, found, Option.map_some]
  rw [show a + 1 + (d - 1) = a + d by omega]

/-- An operation of the journal for the first request of its list, with no format or mount opening (R75, R114). -/
theorem State.journalOp_eq (s : State) (first : JournalRequest) (rest : List JournalRequest) (o : FlashOp)
    (h : s.journal.requests = first :: rest) (ho : ∀ x, s.journal.opening = some x → x.purpose.isMount = false) :
    s.journalOp o = s.journalAsks first.requester o := by
  unfold State.journalOp
  split
  · rename_i h'; exact absurd (ho _ h') (by simp [OpenPurpose.isMount])
  · rename_i h'; exact absurd (ho _ h') (by simp [OpenPurpose.isMount])
  · simp only [h]
    cases first.requester <;>
      simp [State.journalAsks, State.requestCommit, State.requestEraseJournal, State.withRequests, State.withLink]

/-- All that taking a candidate can do, the map in force (R79, R81). -/
theorem State.tryCandidate_taken (s : State) (p : OpenPurpose) (number c : Nat) (first : JournalRequest)
    (rest : List JournalRequest) (h : s.journal.requests = first :: rest) (hp : p = .entry ∨ p = .recording) :
    s.CandidateTaken (s.tryCandidate p number c) p number c first.requester := by
  have hm : p.isMount = false := by rcases hp with rfl | rfl <;> rfl
  have choice : s.tryCandidate p number c =
      if flagAt s.journal.pendingErase c = true ∨ s.journal.previous = some c then
        (s.setOpening { purpose := p, candidate := c, number := number, stage := .erase, images := [] }).journalOp (.erase c)
      else s.writePosition { purpose := p, candidate := c, number := number, stage := .erase, images := [] } 0 := by
    rcases hp with rfl | rfl <;> simp [State.tryCandidate]
  constructor
  · intro h'
    rw [choice, if_pos h']
    exact State.journalOp_eq (s.setOpening _) first rest _ h (by rintro x ⟨⟩; exact hm)
  · intro h1 h2
    rw [choice, if_neg (by simp [h1, h2]), State.writePosition]
    refine (State.journalOp_eq (s.setOpening _) first rest _ h (by rintro x ⟨⟩; exact hm)).trans ?_
    simp [positionAddr, Opening.imageAt, State.setOpening, State.withJournal]

end Sys2Proof.Machine
end

