-- ==== Sys2Proof/WellFormed.lean ====
section
/-! DEFINITION. WellFormed.lean: the checks on a command as a term. A read ends with as many bytes as the spec gives
its operation, and an end of a program, an erase, a suspension or a resumption is the status read that shows it. -/

namespace Sys2Proof

/-- The command as a term is one that the spec's step can be: the byte counts of R109's operations, and the status bits
that make the step (R111: BUSY clear ends a program or an erase; R119: BUSY clear ends a suspension's wait; R120: SUSP
clear ends a resumption's). -/
def Instr.wf : Instr → Bool
  | .hostReadRunEnd bytes => bytes.length == 1 || bytes.length == 2
  | .pageReadEnd bytes => bytes.length == 256
  | .readBackEnd bytes => bytes.length == 256 || bytes.length == 16
  | .mountReadEnd bytes => bytes.length == 16 || bytes.length == 64 || bytes.length == 256
  | .programEnd st => !st.getLsbD 0
  | .eraseEnd st => !st.getLsbD 0
  | .suspendStatus st => !st.getLsbD 0
  | .resumeStatus st => !st.getLsbD 2
  | .hlatFall _ _ => true
  | .dataPhaseStart _ _ _ => true
  | .dataPhaseEnd => true
  | .readyHoldLimitExpiry => true
  | .waitingWriteRedecide => true
  | .rstnAssert => true
  | .resetRelease _ _ _ _ => true
  | .internalResetEnd _ _ _ _ => true
  | .flushRisingEdge => true
  | .powerWarningAssertion => true
  | .powerWarningDeassertion => true
  | .drainFinished => true
  | .haltedPowerDown => true
  | .quietCountExpiry => true
  | .holdCountExpiry => true
  | .dozeCountExpiry => true
  | .progressGuardPasses => true
  | .suspendLatencyExpiry => true
  | .busyLimitExpiry => true
  | .linkGrant => true
  | .wakeIntervalEnd => true
  | .writeEnableStatus _ => true
  | .journalNextRequest => true
  | .commitTake => true
  | .eraseEngineRequest => true
  | .identifyEnd _ _ _ => true
  | .settleEnd _ => true
  | .powerOn => true

end Sys2Proof
end

