-- ==== Sys2Proof/Tests/Slice0.lean ====
section
/-! SUPPORT. Slice0.lean: tests of the model against the spec's own examples, and for each statement with hypotheses a state that
meets them (`witness_` and the statement's name). -/

namespace Sys2Proof.Tests

open Sys2Proof.Machine

set_option Elab.async false

/-! ## Well-formedness: an ill-formed command for each check -/

theorem test_wf_refuses_run_of_three_bytes : Instr.wf (.hostReadRunEnd [1, 2, 3]) = false := by decide
theorem test_wf_refuses_short_page : Instr.wf (.pageReadEnd [0]) = false := by decide
theorem test_wf_refuses_read_back_of_17_bytes : Instr.wf (.readBackEnd (List.replicate 17 0)) = false := by decide
theorem test_wf_refuses_mount_read_of_32_bytes : Instr.wf (.mountReadEnd (List.replicate 32 0)) = false := by decide
theorem test_wf_refuses_busy_program_end : Instr.wf (.programEnd 0x01) = false := by decide
theorem test_wf_refuses_busy_erase_end : Instr.wf (.eraseEnd 0x09) = false := by decide
theorem test_wf_refuses_busy_suspension : Instr.wf (.suspendStatus 0x05) = false := by decide
theorem test_wf_refuses_suspended_resumption : Instr.wf (.resumeStatus 0x05) = false := by decide
theorem test_wf_accepts_failed_program_end : Instr.wf (.programEnd 0x08) = true := by decide

/-! ## The spec's own examples -/

/-- R193: the nine ASCII bytes "123456789" give 0x29B1. -/
theorem test_crc_of_digits : crc16 [0x31, 0x32, 0x33, 0x34, 0x35, 0x36, 0x37, 0x38, 0x39] = 0x29B1 := by decide +kernel

/-- R194: the bytes of REMAP(58, 412, 455, ORDINARY). -/
theorem test_remap_bytes : (payloadImage (.remap 58 412 455 .ordinary)).take 14 =
    [0x3C, 0x3A, 0x9C, 0x01, 0xC7, 0x01, 0, 0, 0, 0, 0, 0, 0, 0] := by decide +kernel

/-- R10: logical address 0x3A7C5 lies in sector 58, page 7, offset 0xC5, page number 935; in data sector 300 it is 0x12C7C5. -/
theorem test_translation_example :
    logicalSectorOf 0x3A7C5 = 58 ∧ pageOf 0x3A7C5 = 935 ∧ offsetOf 0x3A7C5 = 0xC5 ∧
      physAddr 300 (pageInSector 935) 0xC5 = 0x12C7C5 := by decide +kernel

/-- R49: the rows of the table of compatible values. -/
theorem test_compatible_table :
    compatible 0x30 0x3F = true ∧ compatible 0x12 0x13 = true ∧ compatible 0x12 0x12 = true ∧ compatible 0x13 0x12 = false ∧
      compatible 0x01 0x00 = false := by decide +kernel

/-- Chapter 10.7: the fields of the record with faulty fields. -/
def faultyRecord : List Byte :=
  let b : List Byte :=
    [0x44, 0x4E, 0x43, 0x31, 1, 2, 0, 20, 0, 0, 0, 0x88, 0x13, 0x30, 0x75, 0, 250, 0, 1, 16, 31, 1, 40, 39, 2, 0, 255, 0, 100, 110, 1]
      ++ List.replicate 31 0
  b ++ le16 (crc16 b).toNat

/-- Chapter 10.7: an out-of-range field takes its default, the others their own values. -/
theorem test_faulty_record_fields :
    (decodeRecord faultyRecord).inPlaceAllowed = true ∧ (decodeRecord faultyRecord).readyHold = 500 ∧
      (decodeRecord faultyRecord).lowWater = 2 ∧ (decodeRecord faultyRecord).guard = 250 := by decide +kernel

/-- Chapter 10.7: range 0 alone is present. -/
theorem test_faulty_record_ranges : (decodeRecord faultyRecord).ranges = [(16, 31)] := by decide +kernel

/-! ## States for the witnesses -/

/-- A mount record with the identity map of a format. -/
def record : MountRecord :=
  { MountRecord.start with workMap := identityMap, workUsable := Vector.replicate _ true, step := .record }

/-- Tables with logical sectors 0 and 255 at data sectors 8 and 263, the other data sectors SPARE_DIRTY. -/
def tables : Tables :=
  { map := ((Vector.replicate _ none).setIfInBounds 0 (some 8)).setIfInBounds 255 (some 263)
    sector :=
      (List.range 8).foldl (fun v j => v.setIfInBounds j { SectorRecord.empty with state := some .journal, usable := true })
        (Vector.replicate _ { SectorRecord.empty with state := some .spareDirty }) }

/-- READY, 16-bit port, the flash awake. -/
def ready : State :=
  { State.reset with
    now := 1000000
    tables := tables
    pool := { spares := [264, 265], eraser := .idle }
    journal := { Journal.reset with active := some 0, sequence := some 1, appendPos := some 67 }
    link := { Link.reset with power := .awake }
    ctl := { ModeControl.reset with mode := .ready, rstnLow := false, wide := true } }

/-- The same in another mode. -/
def inMode (m : Mode) : State :=
  { ready with ctl := { ready.ctl with mode := m, powerWarning := m == .drain || m == .halted } }

/-- A slot of a page in a state, its byte 0 present. -/
def slotOf (st : SlotState) (page : Nat) (rank : Option Nat) : Slot :=
  { (Slot.empty.put 0 0x5A) with state := st, page := some page, rank := rank }

/-- READY with slot 3 FILLING for page 7. -/
def filling : State :=
  { ready with
    staging := ready.staging.setSlot 3 (slotOf .filling 7 (some 1))
    timer := { quiet := some 0, hold := some 0 } }

/-- READY with slot 3 SEALED for page 7. -/
def queued : State :=
  { ready with staging := { ready.staging.setSlot 3 (slotOf .sealed 7 none) with queue := [3] } }

/-- READY with every slot COMMITTING, so that none is FREE. -/
def full : State :=
  { ready with staging := { ready.staging with slots := Vector.replicate _ (slotOf .committing 9 none) } }

/-- A read at address 0 of both bytes that waits for its run. -/
def waitingRead : Cycle :=
  { ready.openCycle true false 0 with cond := .readWaiting, taken := [none, none] }

/-- READY with that cycle held. -/
def reading : State :=
  { ready with port := { ready.port with cycle := some waitingRead, hwaitn := false } }

/-- The run of two bytes at page 0, offset 0. -/
def run : Run :=
  { page := 0, offset := 0, len := 2, committed := false, discard := false }

/-- READY with an operation in progress. -/
def withOp (s : State) (user : LinkUser) (o : FlashOp) (stage : OpStage) : State :=
  { s with link := { s.link with op := some { user := user, op := o, stage := stage } } }

/-- An erase of sector 264 under way since the time 0. -/
def eraseOf (user : LinkUser) (progress : EraseProgress) : EraseRecord :=
  { sector := 264, user := user, accrued := 0, since := 0, progress := progress }

/-- READY with that erase polling. -/
def erasing (user : LinkUser) (progress : EraseProgress) : State :=
  let s := withOp ready user (.erase 264) (.polling 0)
  { s with link := { s.link with erasing := some (eraseOf user progress) } }

/-- A relocation of logical sector 0 from sector 8 to sector 264, holding slot 3. -/
def job : Job :=
  { logical := 0, source := 8, slots := [3], kind := .relocate, target := some 264, attempt := 1, cursor := 7, phase := .copy,
    fallback := none, awaited := none }

/-- READY with that job, slot 3 COMMITTING for page 7. -/
def committing : State :=
  { ready with
    staging := ready.staging.setSlot 3 (slotOf .committing 7 none)
    engine := { ready.engine with job := some job } }

/-- MOUNTING with the mount record and the flash awake. -/
def mounting : State :=
  { ready with ctl := { ready.ctl with mode := .mounting, mount := some record } }

/-- A state without a job, with slot 3 alone held, FILLING or queued, meets the staging law. -/
theorem stagingLaw_of (s : State) (x : Slot) (p : Nat) (hj : s.engine.job = none)
    (hslots : s.staging.slots = Staging.reset.slots.setIfInBounds 3 x) (hp : x.page = some p)
    (hx : (x.state = .filling ∧ x.rank = some 1 ∧ s.staging.queue = []) ∨ (x.state = .sealed ∧ x.rank = none ∧ s.staging.queue = [3])) :
    s.StagingLaw := by
  have hs : ∀ i < 16, s.staging.slot i = if i = 3 then x else Slot.empty := by
    intro i hi
    by_cases h3 : i = 3
    · subst h3; simp [Staging.slot, hslots, Config.slotCount]
    · simp [Staging.slot, hslots, Staging.reset, Ne.symm h3, h3, hi]
  have hc : x.state = .filling → s.staging.count .filling = 1 := by
    intro h
    have : slotNumbers.countP (fun i => (s.staging.slot i).state == .filling) = slotNumbers.countP (fun i => i == 3) := by
      apply List.countP_congr
      intro i hi
      have : i < 16 := by simpa [slotNumbers] using hi
      rw [hs i this]; by_cases h3 : i = 3 <;> simp [h3, h, Slot.empty]
    rw [Staging.count, this]; decide
  constructor
  all_goals first
    | (intro j h; simp [hj] at h)
    | skip
  · intro i hi; rw [hs i hi]; split
    · rcases hx with h | h <;> simp [hp, h.1]
    · simp [Slot.empty]
  · intro i hi; rw [hs i hi]; split
    · rcases hx with h | h <;> simp [h.1, h.2.1]
    · simp [Slot.empty]
  · intro i hi; rw [hs i hi]; split
    · rcases hx with h | h <;> simp [h.1]
    · simp [Slot.empty]
  · intro i
    rcases hx with h | h
    · simp only [h.2.2, List.not_mem_nil, false_iff, not_and]
      intro hi; rw [hs i hi]; split <;> simp [h.1, Slot.empty]
    · simp only [h.2.2, List.mem_singleton]
      constructor
      · rintro rfl; exact ⟨by decide, by rw [hs 3 (by decide)]; simp [h.1]⟩
      · rintro ⟨hi, h'⟩; rw [hs i hi] at h'; by_contra h3; simp [h3, Slot.empty] at h'
  · rcases hx with h | h <;> simp [h.2.2]
  · intro i hi r hr; rw [hs i hi] at hr; split at hr
    · rcases hx with h | h
      · rw [hc h.1]; simp [h.2.1] at hr; omega
      · simp [h.2.1] at hr
    · simp [Slot.empty] at hr
  · intro i hi k hk; rw [hs i hi, hs k hk]
    by_cases h3 : i = 3 <;> by_cases k3 : k = 3 <;> simp [h3, k3, Slot.empty]
    intro h h'; rw [h'] at h; simp at h
  · intro i; simp only [hj, reduceCtorEq, false_and, exists_false, false_iff, not_and]
    intro hi; rw [hs i hi]; split
    · rcases hx with h | h <;> simp [h.1]
    · simp [Slot.empty]
  · intro i hi k hk; rw [hs i hi, hs k hk]
    by_cases h3 : i = 3 <;> by_cases k3 : k = 3 <;> simp [h3, k3, Slot.empty, Slot.isOpen]
  · intro i hi k hk h; rw [hs i hi] at h; split at h
    · rcases hx with h' | h' <;> simp [h'.1] at h
    · simp [Slot.empty] at h

theorem filling_stagingLaw : filling.StagingLaw := stagingLaw_of _ (slotOf .filling 7 (some 1)) 7 rfl rfl rfl (.inl ⟨rfl, rfl, rfl⟩)
theorem queued_stagingLaw : queued.StagingLaw := stagingLaw_of _ (slotOf .sealed 7 none) 7 rfl rfl rfl (.inr ⟨rfl, rfl, rfl⟩)

/-- With every slot FREE, and a job that holds no slot or none, the staging law holds. -/
theorem stagingLaw_empty (s : State) (hs : s.staging = .reset) (hj : ∀ j, s.engine.job = some j → j.slots = []) : s.StagingLaw := by
  have slot : ∀ i, s.staging.slot i = Slot.empty := by
    intro i
    by_cases h : i < 16 <;> simp [hs, Staging.slot, Staging.reset, Config.slotCount, h]
  have queue : s.staging.queue = [] := by rw [hs]; rfl
  constructor
  all_goals first
    | (intro j h; simp [hj j h])
    | (intros; simp_all [Slot.empty, Slot.isOpen])

/-- READY, the flash DOWN. -/
def sleeping : State :=
  { ready with link := { ready.link with power := .down } }

theorem sleeping_sound : sleeping.Sound where
  reset := ⟨nofun, nofun, nofun, nofun, nofun, nofun, nofun, nofun, nofun, nofun, nofun, nofun, nofun⟩
  mode := ⟨nofun, fun _ => rfl, by decide +kernel, nofun⟩
  port := ⟨rfl, by decide +kernel, by intro h; simp [sleeping, ready, State.reset, HostPort.reset] at h, nofun, rfl, nofun, nofun⟩
  link := ⟨fun _ => ⟨rfl, rfl⟩, ⟨nofun, fun ⟨_, _, h, _⟩ => nomatch h⟩, nofun, nofun, nofun, nofun,
    fun _ _ _ l h => (by cases l <;> cases h), fun _ h => absurd h (by decide +kernel)⟩
  doze := by show sleeping.link.doze.isSome = sleeping.mayDoze; decide +kernel

/-- The tables and spare list of a format: logical sector l at data sector l + 8, the sectors from 264 dirty spares. -/
def formatted : State :=
  { ready with
    tables :=
      { map := Vector.ofFn fun l => some (l.val + 8)
        sector := Vector.ofFn fun p =>
          if p.val < 8 then { SectorRecord.empty with state := some .journal, usable := true }
          else if p.val < 264 then { SectorRecord.empty with state := some .mapped, owner := some (p.val - 8) }
          else { SectorRecord.empty with state := some .spareDirty } }
    pool := { spares := (List.range 248).map (· + 264), eraser := .idle } }

theorem formatted_entry (l : Nat) (h : l < 256) : formatted.tables.entry l = some (l + 8) := by
  simp [Tables.entry, formatted, Config.logicalSectors, h]

theorem formatted_record (p : Nat) (h : p < 512) :
    formatted.tables.record p =
      if p < 8 then { SectorRecord.empty with state := some .journal, usable := true }
      else if p < 264 then { SectorRecord.empty with state := some .mapped, owner := some (p - 8) }
      else { SectorRecord.empty with state := some .spareDirty } := by
  simp [Tables.record, formatted, Config.physicalSectors, h]

theorem formatted_tableLaw : formatted.TableLaw := by
  have state : ∀ p < 512, (formatted.tables.record p).state =
      if p < 8 then some .journal else if p < 264 then some .mapped else some .spareDirty := by
    intro p h; rw [formatted_record p h]; split_ifs <;> rfl
  have owner : ∀ p < 512, (formatted.tables.record p).owner = if 8 ≤ p ∧ p < 264 then some (p - 8) else none := by
    intro p h; rw [formatted_record p h]; split_ifs <;> first | rfl | omega
  have pending : ∀ p < 512, (formatted.tables.record p).retirePending = false := by
    intro p h; rw [formatted_record p h]; split_ifs <;> rfl
  have spares : ∀ p, p ∈ formatted.pool.spares ↔ 264 ≤ p ∧ p < 512 := by
    intro p
    simp only [formatted, List.mem_map, List.mem_range]
    exact ⟨by rintro ⟨a, h, rfl⟩; omega, fun h => ⟨p - 264, by omega, by omega⟩⟩
  constructor <;> intro _
  · intro l h
    exact ⟨l + 8, by omega, by omega, formatted_entry l h, by rw [state _ (by omega)]; split_ifs <;> first | rfl | omega,
      by rw [owner _ (by omega), if_pos (by omega)]; simp⟩
  · intro p h hs
    rw [state p h] at hs
    have range : 8 ≤ p ∧ p < 264 := by split_ifs at hs <;> first | omega | exact absurd hs (by decide)
    exact ⟨p - 8, by omega, by rw [formatted_entry _ (by omega), Nat.sub_add_cancel range.1]⟩
  · intro p h; rw [state p h]; split_ifs <;> simp [*]
  · intro p h ho
    rw [owner p h] at ho; split_ifs at ho with h'
    · left; rw [state p h]; split_ifs <;> first | rfl | omega
    · exact absurd rfl ho
  · intro p
    constructor
    · rintro ⟨h, hs⟩; rw [state p h] at hs; split_ifs at hs <;> exact absurd hs (by decide)
    · rintro ⟨j, h, _⟩; exact nomatch h
  · intro j p h; exact nomatch h
  · intro p
    rw [spares]
    constructor
    · rintro ⟨h, h'⟩; refine ⟨h', .inr ?_⟩; rw [state p h']; split_ifs <;> first | rfl | omega
    · rintro ⟨h, h'⟩; refine ⟨?_, h⟩; rw [state p h] at h'; split_ifs at h' <;> first | omega | exact absurd h' (by decide)
  · exact List.nodup_range.map fun a b h => by simpa using h
  · intro p h
    rw [pending p h]
    exact ⟨nofun, fun ⟨_, _, h⟩ => absurd h List.not_mem_nil⟩
  · have retired : formatted.tables.retiredCount = 0 := by
      rw [Tables.retiredCount, List.length_eq_zero_iff, Tables.retiredSectors, List.filter_eq_nil_iff]
      intro p hp
      rw [state p (by simpa [sectorNumbers, Config.physicalSectors] using hp)]; split_ifs <;> simp
    have none : formatted.tables.pendingCount = 0 := by
      rw [Tables.pendingCount, List.countP_eq_zero]
      intro p hp
      rw [pending p (by simpa [sectorNumbers, Config.physicalSectors] using hp)]; simp
    omega

theorem formatted_slot (i : Nat) : formatted.staging.slot i = Slot.empty := by
  by_cases h : i < 16 <;> simp [formatted, ready, State.reset, Staging.slot, Staging.reset, Config.slotCount, h]

theorem formatted_workLaw : formatted.WorkLaw := by
  constructor
  · intro i p h; rw [formatted_slot] at h; exact nomatch h
  · nofun
  · rintro o ((⟨_, h⟩ | ⟨_, h, _⟩) | h) <;> exact nomatch h
  · rintro o (⟨_, h⟩ | ⟨_, h, _⟩) <;> exact nomatch h
  · rintro p (⟨_, h⟩ | ⟨_, h, _⟩) <;> exact nomatch h
  · nofun
  · nofun
  · intro who e h; exact absurd h List.not_mem_nil
  · intro j h; exact absurd h List.not_mem_nil
  · intro who; exact Nat.zero_le 1
  · intro p c d h; exact absurd h List.not_mem_nil
  · nofun
  · nofun
  · nofun
  · nofun
  · nofun

theorem formatted_sound : formatted.Sound where
  reset := ⟨nofun, nofun, nofun, nofun, nofun, nofun, nofun, nofun, nofun, nofun, nofun, nofun, nofun⟩
  mode := ⟨nofun, fun _ => rfl, by decide +kernel, nofun⟩
  port := ⟨rfl, by decide +kernel, by intro h; simp [formatted, ready, State.reset, HostPort.reset] at h, nofun, rfl, nofun, nofun⟩
  link := ⟨by decide +kernel, ⟨nofun, fun ⟨_, _, h, _⟩ => nomatch h⟩, nofun, nofun, nofun, nofun,
    fun _ _ _ l h => (by cases l <;> cases h), fun _ h => absurd h (by decide +kernel)⟩
  doze := by show false = _; simp [State.mayDoze, formatted, ready, State.reset, Values.default]

theorem ready_modeLaw : ready.ModeLaw := ⟨nofun, fun _ => rfl, by decide +kernel, nofun⟩

/-! ## Witnesses: step, laws and whole-machine rules -/

theorem witness_StepRunsFrontCommand : ({ ready with pending := [.commitTake] } : State).pending = .commitTake :: [] := rfl

theorem witness_StepKeepsSoundness : sleeping.Sound ∧ step sleeping = .next { sleeping with now := 1000001 } :=
  ⟨sleeping_sound, rfl⟩

theorem witness_StepKeepsStagingLaw : filling.StagingLaw ∧ step filling = .next { filling with now := 1000001 } :=
  ⟨filling_stagingLaw, rfl⟩

theorem witness_StepKeepsTableLaw :
    formatted.Sound ∧ formatted.TableLaw ∧ formatted.WorkLaw ∧ formatted.tablesHeld ∧
      step formatted = .next { formatted with now := 1000001 } :=
  ⟨formatted_sound, formatted_tableLaw, formatted_workLaw, .inl rfl, rfl⟩

theorem witness_FaultAndLatchLeftByResetAlone :
    (∃ s t : State, s.ModeLaw ∧ exec .drainFinished s = .next t ∧ s.ctl.mode = .fault) ∧
      ∃ s t : State, s.ModeLaw ∧ exec .drainFinished s = .next t ∧ s.ctl.mode.inForce = true ∧ s.ctl.degraded = true :=
  ⟨⟨inMode .fault, _, ⟨nofun, by decide +kernel, by decide +kernel, nofun⟩, rfl, rfl⟩,
    ⟨{ ready with ctl := { ready.ctl with mode := .readOnly, degraded := true } }, _,
      ⟨by decide +kernel, fun _ => rfl, by decide +kernel, nofun⟩, rfl, rfl, rfl⟩⟩

/-- A program of sector 264's first byte waiting for its write-enable status. -/
def enabling : State :=
  withOp ready .commitEngine (.program 1081344 [0x5A]) .writeEnable

theorem witness_LinkProtocolKept_program :
    ∃ t, exec (.writeEnableStatus 0x02) enabling = .next t ∧ t.wire = enabling.wire ++ [.program 1081344 [0x5A], .poll] :=
  ⟨_, rfl, by decide +kernel⟩

theorem witness_LinkProtocolKept_sleeping :
    ∃ t, sleeping.Sound ∧ sleeping.link.power = .down ∧ exec .linkGrant sleeping = .next t ∧ t.wire = sleeping.wire ++ [] :=
  ⟨_, sleeping_sound, rfl, rfl, by decide +kernel⟩

theorem witness_CleanAndModePinsShowState : ready.clean = true ∧ ready.modePins = 0b001 := by decide +kernel

theorem witness_DozeCountFollowsConditions :
    ({ inMode .readOnly with values := { ready.values with dozeMs := 1 } } : State).mayDoze = true ∧ ready.mayDoze = false := by
  decide +kernel

/-! ## Witnesses: formats -/

theorem identityMap_facts :
    identityMap.length = 256 ∧ identityMap.Nodup ∧ (∀ p ∈ identityMap, p < 512) ∧ ∀ p ∈ identityMap, isDataSector p = true := by
  refine ⟨by simp [identityMap], List.nodup_range.map fun a b h => by simpa using h, ?_, ?_⟩
  all_goals
    intro p hp
    obtain ⟨i, hi, rfl⟩ := List.mem_map.mp hp
    have := List.mem_range.mp hi
    simp only [Config.logicalSectors] at this
    first | omega | (simp [isDataSector]; omega)

theorem witness_CheckpointReadsBackAsWritten :
    identityMap.length = 256 ∧ (∀ p ∈ identityMap, p < 512) ∧ [264].length ≤ 64 ∧ (∀ p ∈ [264], p < 512) :=
  ⟨identityMap_facts.1, identityMap_facts.2.2.1, by decide, by decide⟩

theorem witness_ReplayKeepsConsistency :
    (∀ p ∈ [8, 263], isDataSector p = true) ∧ [8, 263].Nodup ∧ (∀ p ∈ [300], isDataSector p = true ∧ p ∉ [8, 263]) ∧
      replayEntry { map := [8, 263], retired := [300] } (.valid (.remap 1 511 263)) =
        some { map := [8, 511], retired := [300] } := by decide +kernel

theorem witness_InstalledTablesFollowWorkingMap :
    record.workMap.length = 256 ∧ record.workMap.Nodup ∧ (∀ p ∈ record.workMap, isDataSector p = true) :=
  ⟨identityMap_facts.1, identityMap_facts.2.1, identityMap_facts.2.2.2⟩

theorem witness_RecordGivesValuesInForce :
    faultyRecord.length = 64 ∧ recordValid faultyRecord = true ∧ recordValid [] = false := by decide +kernel

/-! ## Witnesses: the host port -/

theorem witness_AddressLatchedOutsideDataPhase :
    ready.inReset = false ∧ ready.port.cycle = none ∧ reading.port.cycle ≠ none ∧ State.reset.inReset = true := by decide +kernel

theorem witness_CycleHeldForMount :
    mounting.inReset = false ∧ mounting.port.cycle = none ∧ mounting.ctl.mode = .mounting := by decide +kernel

theorem witness_ChecksRefuseCycle_mode :
    (inMode .halted).inReset = false ∧ (inMode .halted).port.cycle = none ∧ (inMode .halted).ctl.mode = .halted ∧
      (inMode .drain).ctl.mode = .drain := by decide +kernel

/-- READY with the record lock on and sector 255 protected, at address 0x0003E or in sector 255. -/
def guarded (a : LogAddr) : State :=
  { ready with
    values := { ready.values with lock := true, ranges := [(255, 255)] }, port := { ready.port with latched := a } }

theorem witness_ChecksRefuseCycle_record :
    (guarded 0x3E).ctl.mode = .ready ∧ ((guarded 0x3E).openCycle false false 0).bytes ≠ [] ∧ (guarded 0x3E).ctl.svc = false ∧
      (guarded 0x3E).values.lock = true ∧
      ∃ b ∈ ((guarded 0x3E).openCycle false false 0).bytes, b.addr.toNat ≤ 0x3F := by decide +kernel

theorem witness_ChecksRefuseCycle_range :
    ((guarded 0xFFFFE).openCycle false false 0).bytes ≠ [] ∧
      ∃ r ∈ (guarded 0xFFFFE).values.ranges, r.1 ≤ (guarded 0xFFFFE).port.latched.toNat / 4096 ∧
        (guarded 0xFFFFE).port.latched.toNat / 4096 ≤ r.2 := by decide +kernel

theorem witness_CycleNamingNoByteAnswered :
    (guarded 0x201).inReset = false ∧ (guarded 0x201).port.cycle = none ∧ (guarded 0x201).ctl.wide = true ∧
      (guarded 0x201).port.latched.getLsbD 0 = true ∧ (guarded 0x201).ctl.mode = .ready := by decide +kernel

/-- READY with slot 3 FILLING for page 7, at an address of that page or of another. -/
def fillingAt (a : LogAddr) : State :=
  { filling with port := { filling.port with latched := a } }

theorem writeAllowed_of (s : State) (c : Cycle) (hl : s.values.lock = false) (hr : s.values.ranges = []) : s.writeAllowed c :=
  ⟨by simp [hl], by simp [hr]⟩

theorem witness_WriteGoesIntoOpenSlot :
    (fillingAt 0x7FE).inReset = false ∧ (fillingAt 0x7FE).port.cycle = none ∧ (fillingAt 0x7FE).ctl.mode = .ready ∧
      ((fillingAt 0x7FE).openCycle false false 0).bytes ≠ [] ∧
      (fillingAt 0x7FE).writeAllowed ((fillingAt 0x7FE).openCycle false false 0) ∧
      (fillingAt 0x7FE).staging.openSlot (pageOf (fillingAt 0x7FE).port.latched) = some 3 :=
  ⟨by decide +kernel, rfl, rfl, by decide +kernel, writeAllowed_of _ _ rfl rfl, by decide +kernel⟩

theorem witness_WriteAllocatesLowestFreeSlot :
    (fillingAt 0xFFFFF).staging.openSlot (pageOf (fillingAt 0xFFFFF).port.latched) = none ∧
      ((fillingAt 0xFFFFF).staging.slot 0).state = .free ∧
      (fillingAt 0xFFFFF).values.lowWater < (fillingAt 0xFFFFF).staging.count .free ∧
      ((fillingAt 0xFFFFF).openCycle false false 0).bytes ≠ [] ∧ ready.staging.count .filling = 0 ∧
      (fillingAt 0xFFFFF).staging.count .filling ≠ 0 := by decide +kernel

/-- The same with a low-water mark that every allocation falls below. -/
def pressed (s : State) : State :=
  { s with values := { s.values with lowWater := 16 } }

theorem witness_PressureSealsOldestSlot_own :
    (pressed queued).StagingLaw ∧ (pressed queued).staging.count .free ≤ (pressed queued).values.lowWater ∧
      (pressed queued).staging.count .filling = 0 ∧ ((pressed queued).staging.slot 0).state = .free ∧
      (pressed queued).staging.openSlot (pageOf (pressed queued).port.latched) = none ∧
      ((pressed queued).openCycle false false 0).bytes ≠ [] :=
  ⟨stagingLaw_of _ (slotOf .sealed 7 none) 7 rfl rfl rfl (.inr ⟨rfl, rfl, rfl⟩), by decide +kernel⟩

theorem witness_PressureSealsOldestSlot_older :
    (pressed (fillingAt 0)).StagingLaw ∧ (pressed (fillingAt 0)).staging.count .free ≤ (pressed (fillingAt 0)).values.lowWater ∧
      ((pressed (fillingAt 0)).staging.slot 3).rank = some 1 ∧ ((pressed (fillingAt 0)).staging.slot 0).state = .free ∧
      (pressed (fillingAt 0)).staging.openSlot (pageOf (pressed (fillingAt 0)).port.latched) = none :=
  ⟨stagingLaw_of _ (slotOf .filling 7 (some 1)) 7 rfl rfl rfl (.inl ⟨rfl, rfl, rfl⟩), by decide +kernel⟩

theorem witness_WriteWaitsForSlot :
    full.inReset = false ∧ full.port.cycle = none ∧ full.ctl.mode = .ready ∧ (full.openCycle false false 0).bytes ≠ [] ∧
      full.staging.openSlot (pageOf full.port.latched) = none ∧ (∀ k < 16, (full.staging.slot k).state ≠ .free) := by
  decide +kernel

theorem witness_OpenSlotSuppliesByteFirst_open :
    filling.StagingLaw ∧ (filling.staging.slot 3).page = some 7 ∧ (filling.staging.slot 3).byte 0 = some 0x5A ∧
      (filling.staging.slot 3).isOpen = true :=
  ⟨filling_stagingLaw, by decide +kernel⟩

theorem witness_OpenSlotSuppliesByteFirst_committing :
    (committing.staging.slot 3).page = some 7 ∧ (committing.staging.slot 3).byte 0 = some 0x5A ∧
      (committing.staging.slot 3).state = .committing ∧ (∀ k < 16, (committing.staging.slot k).isOpen = false) := by decide +kernel

theorem witness_ReadAnsweredFromSlots :
    (fillingAt 0x700).inReset = false ∧ (fillingAt 0x700).port.cycle = none ∧
      ((fillingAt 0x700).openCycle true true 0).bytes ≠ [] ∧
      (∀ b ∈ ((fillingAt 0x700).openCycle true true 0).bytes,
        (fillingAt 0x700).staging.layeredByte (pageOf b.addr) (offsetOf b.addr) ≠ none) := by decide +kernel

theorem witness_ReadRequestsFlashRun :
    (fillingAt 0x700).guardPassed = false ∧
      (((fillingAt 0x700).openCycle true false 0).bytes.filter fun b =>
        ((fillingAt 0x700).staging.layeredByte (pageOf b.addr) (offsetOf b.addr)).isNone).map (fun b => offsetOf b.addr) =
          1 :: [] := by decide +kernel

theorem witness_ReadRequestsFlashRun_suspending :
    let s := erasing .eraseEngine .running
    s.inReset = false ∧ s.port.cycle = none ∧ s.ctl.mode = .ready ∧
      ((s.openCycle true false 0).bytes.filter fun b =>
        (s.staging.layeredByte (pageOf b.addr) (offsetOf b.addr)).isNone).map (fun b => offsetOf b.addr) = 0 :: [1] ∧
      s.link.op = some { user := .eraseEngine, op := .erase 264, stage := .polling 0 } ∧
      s.link.erasing = some (eraseOf .eraseEngine .running) ∧ s.values.guard ≤ s.now - 0 ∧ s.link.requests.hostRead = none := by
  decide +kernel

theorem witness_DataPhaseEndReleasesPins :
    ∃ c, ({ ready with port := { ready.port with cycle := some { waitingRead with cond := .answered } } } : State).port.cycle = some c ∧
      c.cond ≠ .readWaiting := ⟨_, rfl, by decide⟩

/-- READY with an expired read held and its run requested. -/
def expiredRead : State :=
  { reading with
    port := { reading.port with cycle := some { waitingRead with waitStart := 999500 } }
    link := { reading.link with requests := { reading.link.requests with hostRead := some run } } }

theorem witness_WaitingReadEndsWithdrawingRun :
    expiredRead.port.cycle = some { waitingRead with waitStart := 999500 } ∧ waitingRead.cond = .readWaiting ∧
      expiredRead.heldRun = none ∧ expiredRead.link.requests.hostRead = some run ∧
      ({ waitingRead with waitStart := 999500 } : Cycle).limit ≤ expiredRead.now - 999500 :=
  ⟨rfl, rfl, rfl, rfl, by decide +kernel⟩

theorem witness_WaitingReadEndsWithdrawingRun_held :
    ({ expiredRead with heldRun := some run } : State).heldRun ≠ none ∧
      ({ expiredRead with heldRun := some run } : State).port.cycle = some { waitingRead with waitStart := 999500 } :=
  ⟨nofun, rfl⟩

theorem witness_WaitingReadEndsWithdrawingRun_clocking :
    ∀ stage, (withOp reading .readService (.hostRun run 0) stage).port.cycle = some waitingRead ∧ reading.heldRun = none ∧
      reading.link.requests.hostRead = none ∧
      (withOp reading .readService (.hostRun run 0) stage).link.op =
        some { user := .readService, op := .hostRun run 0, stage := stage } :=
  fun _ => ⟨rfl, rfl, rfl, rfl⟩

theorem witness_HoldLimitEndsHeldCycle :
    ∀ cond : CycleCond, ∃ c : Cycle, c.cond = cond ∧
      ({ ready with port := { ready.port with cycle := some c } } : State).port.cycle = some c ∧
      c.limit ≤ ready.now - c.waitStart :=
  fun cond => ⟨{ waitingRead with cond := cond, waitStart := 999500 }, rfl, rfl, by show 500 ≤ 1000000 - 999500; decide⟩

/-- The write and the cycle of a write that waits. -/
def waitingWrite : PageWrite :=
  { page := 7, bytes := [(254, 1), (255, 2)] }

def writeCycle : Cycle :=
  { ready.openCycle false false 0 with cond := .writeWaiting }

/-- READY with that write waiting and every slot FREE again. -/
def freed : State :=
  { ready with
    port := { ready.port with cycle := some writeCycle, hwaitn := false }
    staging := { ready.staging with waiting := some waitingWrite } }

theorem witness_WaitingWriteTakenIntoFreedSlot :
    freed.staging.waiting = some waitingWrite ∧ freed.port.cycle = some writeCycle ∧ writeCycle.isRead = false ∧
      freed.staging.openSlot waitingWrite.page = none ∧ (freed.staging.slot 0).state = .free ∧
      freed.values.lowWater < freed.staging.count .free :=
  ⟨rfl, rfl, rfl, by decide +kernel, by decide +kernel, by decide +kernel⟩

/-! ## Witnesses: sealing, the power warning, reset and power -/

theorem witness_SealAllQueuesFillingSlots :
    filling.StagingLaw ∧ filling.inReset = false ∧ State.reset.inReset = true ∧ filling.timer.quiet = some 0 ∧
      filling.values.quietMs * 1000 ≤ filling.now - 0 ∧ filling.timer.hold = some 0 ∧
      filling.values.holdMs * 1000 ≤ filling.now - 0 ∧ filling.staging.count .filling ≠ 0 :=
  ⟨filling_stagingLaw, by decide +kernel⟩

theorem witness_PowerWarningStartsDrain :
    filling.StagingLaw ∧ filling.inReset = false ∧ filling.ctl.powerWarning = false ∧ filling.ctl.mode = .ready :=
  ⟨filling_stagingLaw, rfl, rfl, rfl⟩

theorem witness_PowerWarningHaltsReadOnly :
    (inMode .readOnly).inReset = false ∧ (inMode .readOnly).ctl.powerWarning = false ∧
      (inMode .readOnly).ctl.mode = .readOnly := by decide +kernel

theorem witness_DrainEndsOrWarningClears :
    (inMode .drain).ctl.mode = .drain ∧ (∀ i < 16, ((inMode .drain).staging.slot i).state = .free) ∧
      (inMode .drain).engine.job = none ∧ (inMode .drain).inReset = false ∧ (inMode .drain).ctl.powerWarning = true ∧
      (filling.staging.slot 3).state ≠ .free ∧ (inMode .halted).ctl.mode = .halted := by decide +kernel

theorem witness_PowerDownClosesStream :
    ((inMode .halted).ctl.mode = .halted ∧ (inMode .halted).engine.job = none ∧ (inMode .halted).pool.eraser = .idle ∧
        (inMode .halted).journal.activity = .idle ∧ (inMode .halted).journal.requests = [] ∧ (inMode .halted).link.op = none ∧
        (inMode .halted).link.suspended = false ∧ (inMode .halted).link.requests = .empty ∧
        (inMode .halted).link.power = .awake) ∧
      ({ ready with link := { ready.link with doze := some 0 } } : State).link.doze = some 0 ∧
      ready.values.dozeMs * 1000 ≤ ready.now - 0 := by decide +kernel

theorem witness_ResetEndBeginsMount :
    State.reset.link.stream = none ∧ State.reset.ctl.rstnLow = true ∧ State.reset.ctl.internalReset = false ∧
      (ready.resetBlocks false true).ctl.rstnLow = false ∧ (ready.resetBlocks false true).ctl.internalReset = true ∧
      (ready.resetBlocks true true).ctl.rstnLow = true := by decide +kernel

/-! ## Witnesses: the flash link -/

/-- READY with a run of the window's last byte requested and the stream open at an address. -/
def requested (power : PowerState) (stream : Option Nat) : State :=
  { ready with
    link :=
      { ready.link with
        power := power, stream := stream
        requests :=
          { ready.link.requests with
            hostRead := some { page := 4095, offset := 255, len := 1, committed := false, discard := false } } } }

theorem witness_HostRunGranted :
    ∀ power ∈ [PowerState.awake, .down, .unknown], ∀ stream ∈ [none, some 1081343, some 0],
      (requested power stream).link.op = none ∧ (requested power stream).link.granted = none ∧
        (requested power stream).link.requests.hostRead.isSome = true ∧
        (requested power stream).link.power = power ∧ (requested power stream).link.stream = stream ∧
        (requested power stream).tables.entry (4095 / 16) = some 263 ∧ 1081343 = 263 * 4096 + 4095 % 16 * 256 + 255 := by
  decide +kernel

/-- READY with a program asked for at commit priority, or at erase-journal priority. -/
def asked (commit eraseJournal : Bool) : State :=
  { ready with
    link :=
      { ready.link with
        requests :=
          { ready.link.requests with
            commit := if commit then some (.journal, .program 1072 [0]) else none
            eraseJournal := if eraseJournal then some (.program 1072 [0]) else none } } }

theorem witness_GrantFollowsPriority :
    ∀ commit : Bool, (asked commit true).link.op = none ∧ (asked commit true).link.granted = none ∧
      (asked commit true).link.requests.hostRead = none ∧
      (asked commit true).link.suspended = false ∧ (asked commit true).link.power = .awake ∧
      (asked commit true).link.requests.commit = (if commit then some (.journal, .program 1072 [0]) else none) ∧
      (asked commit true).link.requests.eraseJournal = some (.program 1072 [0]) := by decide +kernel

/-- READY with the commit engine's erase of sector 264 asked for, for a relocation that holds no slot and no target, the sector in a
state. -/
def askedErase (state : SectorState) : State :=
  { ready with
    tables := tables.setState 264 state none
    engine := { ready.engine with job := some { job with slots := [], target := none } }
    link := { ready.link with requests := { ready.link.requests with commit := some (.commitEngine, .erase 264) } } }

theorem witness_GrantFollowsPriority_allocation :
    ((askedErase .spareDirty).tables.record 264).state = some .spareDirty ∧
      ((askedErase .spareDirty).tables.record 264).retirePending = false ∧ (askedErase .spareDirty).ctl.degraded = false ∧
      ((askedErase .spareClean).tables.record 264).state ≠ some .spareDirty ∧ (askedErase .spareClean).StagingLaw ∧
      (askedErase .spareClean).link.granted = none ∧ (askedErase .spareClean).link.requests.hostRead = none ∧
      (askedErase .spareClean).firstSpare .spareClean 264 :=
  ⟨by decide +kernel, by decide +kernel, rfl, by decide +kernel,
    stagingLaw_empty _ rfl (by rintro j ⟨⟩; rfl), rfl, rfl, ⟨[], [265], rfl, by decide +kernel, by decide +kernel, nofun⟩⟩

/-- READY with the erase engine's request granted, J1 pending or not. -/
def askedTurn (pending : Bool) : State :=
  { ready with
    pool := { ready.pool with eraser := .requesting }
    journal := { ready.journal with pendingErase := (Vector.replicate _ false).setIfInBounds 1 pending }
    link := { ready.link with granted := some .erase, requests := { ready.link.requests with erase := true } } }

theorem witness_GrantFollowsPriority_turn :
    (askedTurn true).link.granted = some .erase ∧ (askedTurn true).link.requests.erase = true ∧
      (askedTurn true).ctl.mode = .ready ∧ (askedTurn true).journal.active = some 0 ∧ 1 = (0 + 1) % 8 ∧
      (askedTurn true).tables.usable 1 = true ∧ flagAt (askedTurn true).journal.pendingErase 1 = true ∧
      (∀ k < 8, flagAt (askedTurn false).journal.pendingErase k = false) ∧ (askedTurn false).firstSpare .spareDirty 264 :=
  ⟨rfl, rfl, rfl, rfl, rfl, by decide +kernel, by decide +kernel, by decide +kernel,
    ⟨[], [265], rfl, by decide +kernel, by decide +kernel, nofun⟩⟩

/-- A take is due (R45), a begin of a journal request is due for each requester (R75), or none is. -/
theorem witness_GrantFollowsPriority_due :
    (queued.engine.job = none ∧ queued.ctl.mode = .ready ∧ queued.staging.queue ≠ [] ∧ queued.link.op = none ∧
        queued.link.requests.commit = none ∧ queued.link.granted = none) ∧
      (∀ q : JournalRequest, ({ ready with journal := { ready.journal with requests := [q] } } : State).journal.activity = .idle) ∧
      ready.staging.queue = [] ∧ ready.journal.requests = [] := by
  refine ⟨⟨rfl, rfl, nofun, rfl, rfl, rfl⟩, fun _ => rfl, rfl, rfl⟩

/-- A grant of the erase engine's withdrawn request (R95), with a program asked for. -/
theorem witness_GrantFollowsPriority_withdrawn :
    let s := { asked true true with link := { (asked true true).link with granted := some .erase } }
    s.link.op = none ∧ s.link.granted = some .erase ∧ s.link.requests.holds .erase = false ∧ s.link.suspended = false ∧
      s.link.requests.commit ≠ none := by decide +kernel

theorem witness_WakeGoesOnWithOperation :
    ∀ o : FlashOp, (withOp mounting .mount o (.waking 999960)).link.op =
        some { user := .mount, op := o, stage := .waking 999960 } ∧
      40 ≤ (withOp mounting .mount o (.waking 999960)).now - 999960 ∧
      (withOp mounting .mount o (.waking 999960)).link.stream = none ∧
      (withOp mounting .mount o (.waking 999960)).ctl.mount = some record :=
  fun _ => ⟨rfl, by show 40 ≤ 1000000 - 999960; decide, rfl, rfl⟩

theorem witness_WriteEnableIssuesOrFaults :
    enabling.link.op = some { user := .commitEngine, op := .program 1081344 [0x5A], stage := .writeEnable } ∧
      (withOp ready .eraseEngine (.erase 264) .writeEnable).link.op =
        some { user := .eraseEngine, op := .erase 264, stage := .writeEnable } ∧
      (0x02 : Byte).getLsbD 1 = true ∧ (0xFD : Byte).getLsbD 1 = false ∧ ready.link.power = .awake :=
  ⟨rfl, rfl, by decide +kernel, by decide +kernel, rfl⟩

theorem witness_LinkLimitsEndInFault_suspend :
    (erasing .eraseEngine (.suspending 999800)).link.erasing = some (eraseOf .eraseEngine (.suspending 999800)) ∧
      200 ≤ (erasing .eraseEngine (.suspending 999800)).now - 999800 ∧
      (erasing .eraseEngine (.resuming 999800)).link.erasing = some (eraseOf .eraseEngine (.resuming 999800)) :=
  ⟨rfl, by decide +kernel, rfl⟩

theorem witness_LinkLimitsEndInFault_busy :
    (withOp ready .journal (.program 0 []) (.polling 995999)).link.op =
        some { user := .journal, op := .program 0 [], stage := .polling 995999 } ∧
      4000 < ready.now - 995999 ∧
      (erasing .eraseEngine .running).link.op = some { user := .eraseEngine, op := .erase 264, stage := .polling 0 } ∧
      600000 < (eraseOf .eraseEngine .running).accrued + (ready.now - (eraseOf .eraseEngine .running).since) := by decide +kernel

theorem witness_LinkLimitsEndInFault_settle :
    (withOp mounting .mount .settle (.settling 399999 none)).link.op =
        some { user := .mount, op := .settle, stage := .settling 399999 none } ∧
      600000 < (withOp mounting .mount .settle (.settling 399999 none)).now - 399999 ∧
      (withOp mounting .mount .settle (.settling 399999 (some 999800))).link.op =
        some { user := .mount, op := .settle, stage := .settling 399999 (some 999800) } ∧
      200 ≤ (withOp mounting .mount .settle (.settling 399999 (some 999800))).now - 999800 :=
  ⟨rfl, by decide +kernel, rfl, by decide +kernel⟩

/-- An erase of the erase engine under way with a host read waiting. -/
def erasingRead (progress : EraseProgress) : State :=
  let s := erasing .eraseEngine progress
  { s with link := { s.link with requests := { s.link.requests with hostRead := some run } } }

theorem witness_EraseSuspendedAndResumed :
    ∀ progress ∈ [EraseProgress.running, .suspending 0, .resuming 0],
      (erasingRead progress).link.erasing = some (eraseOf .eraseEngine progress) ∧
        (erasingRead progress).link.op = some { user := .eraseEngine, op := .erase 264, stage := .polling 0 } ∧
        (eraseOf .eraseEngine progress).progress = progress ∧
        (erasingRead progress).values.guard ≤ (erasingRead progress).now - (eraseOf .eraseEngine progress).since ∧
        (erasingRead progress).link.requests.hostRead = some run ∧
        (0x04 : Byte).getLsbD 0 = false ∧ (0x04 : Byte).getLsbD 2 = true ∧ (0x01 : Byte).getLsbD 2 = false := by decide +kernel

/-- An erase's suspension with both flags clear, or BUSY set. -/
theorem witness_EraseSuspendedAndResumed_ends :
    (0x00 : Byte).getLsbD 0 = false ∧ (0x00 : Byte).getLsbD 2 = false ∧ (0x01 : Byte).getLsbD 0 = true := by decide

/-- A settle that polls for BUSY, or waits for SUSP to clear, with no erase record. -/
theorem witness_EraseSuspendedAndResumed_settle :
    ∀ waits ∈ [none, some 999900],
      (withOp mounting .mount .settle (.settling 999800 waits)).link.op =
          some { user := .mount, op := .settle, stage := .settling 999800 waits } ∧
        (withOp mounting .mount .settle (.settling 999800 waits)).link.erasing = none ∧
        (0x04 : Byte).getLsbD 0 = false ∧ (0x04 : Byte).getLsbD 2 = true ∧ (0x00 : Byte).getLsbD 2 = false ∧
        (0x01 : Byte).getLsbD 0 = true := by decide +kernel

theorem witness_RunEndAnswersRead :
    (withOp reading .readService (.hostRun run 2097150) .reading).link.op =
        some { user := .readService, op := .hostRun run 2097150, stage := .reading } ∧
      [(1 : Byte), 2].length = run.len ∧ run.discard = false ∧ reading.heldRun = none ∧ reading.link.suspended = false ∧
      reading.port.cycle = some waitingRead ∧ waitingRead.isRead = true ∧ waitingRead.cond = .readWaiting ∧
      waitingRead.bytes.map (·.lane) = [.low, .high] ∧ waitingRead.taken = [none, none] := by decide +kernel

/-- A read of the byte at an address in a port of a width, waiting for its run. -/
def byteRead (wide : Bool) (a : LogAddr) : Cycle :=
  { waitingRead with bytes := cycleBytes wide (!a.getLsbD 0) a 0, taken := [none] }

theorem witness_RunEndAnswersRead_byte :
    (byteRead true 0).bytes.map (·.lane) = [.low] ∧ (byteRead true 1).bytes.map (·.lane) = [.high] ∧
      (byteRead false 1).bytes.map (·.lane) = [.low] ∧ ∀ c,
      ({ reading with port := { reading.port with cycle := some c } } : State).port.cycle = some c :=
  ⟨by decide, by decide, by decide, fun _ => rfl⟩

/-- An erase suspended, a discarded run clocking its last bytes. -/
def suspendedRun : State :=
  let s := withOp ready .readService (.hostRun { run with committed := true, discard := true } 0) .reading
  { s with link := { s.link with erasing := some (eraseOf .eraseEngine .suspended) } }

theorem witness_RunEndAnswersRead_suspended :
    suspendedRun.link.erasing = some (eraseOf .eraseEngine .suspended) ∧ suspendedRun.heldRun = none ∧
      suspendedRun.link.requests.hostRead = none ∧
      ({ suspendedRun with heldRun := some run } : State).heldRun = some run ∧
      suspendedRun.link.op =
        some { user := .readService, op := .hostRun { run with committed := true, discard := true } 0, stage := .reading } :=
  ⟨rfl, rfl, rfl, rfl, rfl⟩

/-! ## Witnesses: the engines, mount and format -/

theorem witness_TakeFormsJobOfOneSector :
    ∀ allowed : Bool, ({ queued with values := { queued.values with inPlaceAllowed := allowed } } : State).StagingLaw ∧
      queued.engine.job = none ∧ queued.ctl.mode = .ready ∧
      ({ queued with values := { queued.values with inPlaceAllowed := allowed } } : State).values.inPlaceAllowed = allowed ∧
      queued.staging.queue = 3 :: [] ∧ (queued.staging.slot 3).page = some 7 ∧ queued.tables.entry 0 = some 8 :=
  fun _ => ⟨stagingLaw_of _ (slotOf .sealed 7 none) 7 rfl rfl rfl (.inr ⟨rfl, rfl, rfl⟩), rfl, rfl, rfl, rfl,
    by decide +kernel, by decide +kernel⟩

/-- A page read of a job ended. -/
def pageRead (j : Job) : State :=
  withOp { committing with engine := { committing.engine with job := some j } } .commitEngine (.pageRead 34560) .reading

theorem witness_CopyProgramsMergedPage_copy :
    (pageRead job).link.op = some { user := .commitEngine, op := .pageRead 34560, stage := .reading } ∧
      (pageRead job).engine.job = some job ∧ (pageRead job).onePerPage job ∧ job.phase = .copy ∧ job.kind = .relocate ∧
      job.target = some 264 ∧ (pageRead job).holdsPage job 7 3 ∧ ((pageRead job).staging.slot 3).byte 0 = some 0x5A ∧
      ∀ k < 16, k ≠ 7 → ∀ i, ¬(pageRead job).holdsPage job k i := by
  have page : (committing.staging.slot 3).page = some 7 := by decide +kernel
  refine ⟨rfl, rfl, ?_, rfl, rfl, rfl, ⟨List.mem_singleton.mpr rfl, by decide +kernel⟩, by decide +kernel, ?_⟩
  · intro i hi k hk _
    exact (List.mem_singleton.mp hi).trans (List.mem_singleton.mp hk).symm
  · rintro k _ hk i ⟨hi, h⟩
    obtain rfl := List.mem_singleton.mp hi
    rw [show (pageRead job).staging = committing.staging from rfl, page] at h
    exact hk (Option.some.inj h).symm

/-- The same job before its kind is decided, or programming in place. -/
def early (phase : Phase) (kind : JobKind) (cursor : Nat) : Job :=
  { job with phase := phase, kind := kind, cursor := cursor, target := none }

theorem witness_CopyProgramsMergedPage_early :
    ∀ phase kind cursor, (pageRead (early phase kind cursor)).engine.job = some (early phase kind cursor) ∧
      (pageRead (early phase kind cursor)).onePerPage (early phase kind cursor) ∧
      (early phase kind cursor).phase = phase ∧ (early phase kind cursor).kind = kind ∧
      (pageRead (early phase kind cursor)).ctl.mode ≠ .drain :=
  fun _ _ _ => ⟨rfl, fun _ hi _ hk _ => (List.mem_singleton.mp hi).trans (List.mem_singleton.mp hk).symm, rfl, rfl, nofun⟩

/-- A byte read of 0x5A fits the slot's byte, one of 0 does not. -/
theorem witness_CopyProgramsMergedPage_fits :
    (0x5A : Byte) &&& 0x5A = 0x5A ∧ (0x5A : Byte) &&& 0 ≠ 0x5A ∧
      ({ pageRead (early .decide .undecided 7) with
          staging := .reset
          engine := { ready.engine with job := some { early .decide .undecided 7 with slots := [] } } } : State).StagingLaw :=
  ⟨by decide, by decide, stagingLaw_empty _ rfl (by rintro j ⟨⟩; rfl)⟩

/-- Tables with no sector retired and none pending. -/
def emptyTables : Tables :=
  { map := Vector.replicate _ none, sector := Vector.replicate _ .empty }

theorem emptyTables_counts : emptyTables.retiredCount + emptyTables.pendingCount < 64 := by
  have record : ∀ p, emptyTables.record p = .empty := by
    intro p
    by_cases h : p < 512 <;> simp [Tables.record, emptyTables, h, Config.physicalSectors]
  simp [Tables.retiredCount, Tables.retiredSectors, Tables.pendingCount, record, SectorRecord.empty]

/-- The program of the job's page under way, with a request of the erase engine in the journal's list. -/
def programming : State :=
  let s := withOp committing .commitEngine (.program 1083136 [0x5A]) (.polling 999000)
  { s with tables := emptyTables, journal := { s.journal with requests := [.record 1] } }

theorem witness_PageProgramEndVerifiesOrRetires :
    programming.link.op = some { user := .commitEngine, op := .program 1083136 [0x5A], stage := .polling 999000 } ∧
      programming.engine.job = some job ∧ job.kind = .relocate ∧ job.target = some 264 ∧ (0x08 : Byte).getLsbD 0 = false ∧
      (0x00 : Byte).getLsbD 3 = false ∧ (0x08 : Byte).getLsbD 3 = true ∧ programming.values.verify = true ∧
      programming.tables.retiredCount + programming.tables.pendingCount < 64 ∧ programming.journal.requests ≠ [] :=
  ⟨rfl, rfl, rfl, rfl, by decide +kernel, by decide +kernel, by decide +kernel, rfl,
    (by rw [show programming.tables = emptyTables from rfl]; exact emptyTables_counts), by decide +kernel⟩

/-- A program under way of a job that holds no slot, over given tables, the journal's list empty. -/
def programmingOf (j : Job) (t : Tables) : State :=
  let s := withOp ready .commitEngine (.program 0 []) (.polling 999000)
  { s with tables := t, engine := { s.engine with job := some { j with slots := [] } } }

theorem programmingOf_stagingLaw (j : Job) (t : Tables) : (programmingOf j t).StagingLaw :=
  stagingLaw_empty _ rfl (by rintro k ⟨⟩; rfl)

theorem witness_PageProgramEndVerifiesOrRetires_inPlace :
    (programmingOf (early .programInPlace .inPlace 7) tables).StagingLaw ∧
      (early .programInPlace .inPlace 7).kind = .inPlace :=
  ⟨programmingOf_stagingLaw _ _, rfl⟩

/-- J0 usable, nothing retired; and every sector RETIRED. -/
def usableTables : Tables :=
  { emptyTables with sector := emptyTables.sector.setIfInBounds 0 { SectorRecord.empty with usable := true } }

def cappedTables : Tables :=
  { emptyTables with sector := Vector.replicate _ { SectorRecord.empty with state := some .retired } }

theorem usableTables_counts : usableTables.retiredCount + usableTables.pendingCount < 64 := by
  have state : ∀ p, (usableTables.record p).state = none ∧ (usableTables.record p).retirePending = false := by
    intro p
    by_cases h0 : p = 0
    · subst h0; simp [Tables.record, usableTables, emptyTables, Config.physicalSectors, SectorRecord.empty]
    · by_cases h : p < 512 <;>
        simp [Tables.record, usableTables, emptyTables, Config.physicalSectors, SectorRecord.empty, h, Ne.symm h0]
  simp [Tables.retiredCount, Tables.retiredSectors, Tables.pendingCount, state]

theorem cappedTables_count : 64 ≤ cappedTables.retiredCount + cappedTables.pendingCount := by
  have state : ∀ p ∈ sectorNumbers, (cappedTables.record p).state = some .retired := by
    intro p hp
    have h : p < 512 := by simpa [sectorNumbers, Config.physicalSectors] using hp
    simp [Tables.record, cappedTables, Config.physicalSectors, h]
  have all : cappedTables.retiredSectors = sectorNumbers := List.filter_eq_self.mpr fun p hp => by simp [state p hp]
  rw [Tables.retiredCount, all]
  simp [sectorNumbers, Config.physicalSectors]
  omega

theorem witness_PageProgramEndVerifiesOrRetires_atOnce :
    (programmingOf job usableTables).tables.retiredCount + (programmingOf job usableTables).tables.pendingCount < 64 ∧
      (programmingOf job usableTables).journal.requests = [] ∧ (programmingOf job usableTables).journal.active = some 0 ∧
      0 ≠ 264 ∧ (programmingOf job usableTables).tables.usable 0 = true ∧
      (programmingOf job usableTables).journal.appendPos = some 67 :=
  ⟨by rw [show (programmingOf job usableTables).tables = usableTables from rfl]; exact usableTables_counts, rfl, rfl, by decide,
    by decide +kernel, rfl⟩

theorem witness_PageProgramEndVerifiesOrRetires_capped :
    (programmingOf job cappedTables).StagingLaw ∧
      64 ≤ (programmingOf job cappedTables).tables.retiredCount + (programmingOf job cappedTables).tables.pendingCount ∧
      (programmingOf job cappedTables).staging.waiting = none ∧ (programmingOf job cappedTables).pool.eraser ≠ .requesting ∧
      (programmingOf job cappedTables).ctl.degraded = false :=
  ⟨programmingOf_stagingLaw _ _,
    by rw [show (programmingOf job cappedTables).tables = cappedTables from rfl]; exact cappedTables_count, rfl, nofun, rfl⟩

theorem workPage_length : ready.engine.workPage.length = 256 := by decide +kernel

/-- A job's page write ended in each way: by a program with verify off, or by a read-back; well, or in failure. -/
theorem witness_PageProgramEndVerifiesOrRetires_ends (j : Job) (t : Tables) :
    let off : State := { programmingOf j t with values := { ready.values with verify := false } }
    let back : State := withOp (programmingOf j t) .commitEngine (.readBack 0 256) .reading
    off.StagingLaw ∧ off.pageGood (.programEnd 0x00) ∧ back.pageGood (.readBackEnd ready.engine.workPage) ∧
      off.pageBad (.programEnd 0x08) .programFail ∧ back.pageBad (.readBackEnd (List.replicate 256 1)) .verifyFail :=
  ⟨stagingLaw_empty _ rfl (by rintro k ⟨⟩; rfl), .inl ⟨_, _, _, _, rfl, rfl, by decide, by decide, rfl⟩, .inr ⟨0, rfl, by rw [show (withOp (programmingOf j t) .commitEngine (.readBack 0 256) .reading).engine.workPage.length = 256 from workPage_length]; rfl⟩,
    .inl ⟨rfl, _, _, _, _, rfl, rfl, by decide, by decide⟩,
    .inr ⟨rfl, _, 0, rfl, (by decide +kernel : List.replicate 256 (1 : Byte) ≠ ready.engine.workPage), by rw [show (List.replicate 256 (1 : Byte)).length = 256 from List.length_replicate]; rfl⟩⟩

/-- An append under way with verify off, for a job that holds no slot and waits as given, over given tables. -/
def ending (who : Requester) (e : Payload) (j : Job) (t : Tables) : State :=
  let s := withOp ready .journal (.program 1072 []) (.polling 999000)
  { s with
    tables := t
    values := { s.values with verify := false }
    engine := { s.engine with job := some { j with slots := [] } }
    journal := { s.journal with activity := .appending, requests := [.append who e] } }

theorem ending_good (who : Requester) (e : Payload) (j : Job) (t : Tables) :
    (ending who e j t).appendGood (.programEnd 0x00) who e [] ∧ (ending who e j t).StagingLaw :=
  ⟨⟨rfl, rfl, .inl ⟨_, _, _, _, rfl, rfl, by decide, by decide, rfl⟩⟩, stagingLaw_empty _ rfl (by rintro k ⟨⟩; rfl)⟩

/-- A RETIRE completed for each requester, whatever the job awaits and whichever its attempt. -/
theorem witness_PageProgramEndVerifiesOrRetires_retire (who : Requester) (awaited : Awaited) (attempt : Nat) :
    let s := ending who (.retire 264 .eraseFail) { job with awaited := some awaited, attempt := attempt } tables
    s.appendGood (.programEnd 0x00) who (.retire 264 .eraseFail) [] ∧ s.StagingLaw ∧ 264 < 512 ∧
      ∃ j, s.engine.job = some j ∧ j.awaited = some awaited ∧ j.attempt = attempt :=
  ⟨(ending_good ..).1, (ending_good ..).2, by decide, _, rfl, rfl, rfl⟩

/-- The read-back of the job's REMAP under way. -/
def remapping : State :=
  let s := withOp committing .journal (.readBack 1072 16) .reading
  { s with
    journal :=
      { s.journal with activity := .appending, requests := [.append .commitEngine (.remap 0 264 8 .ordinary)] } }

theorem witness_RemapCompletionChangesFourParts :
    remapping.link.op = some { user := .journal, op := .readBack 1072 16, stage := .reading } ∧
      (payloadImage (.remap 0 264 8 .ordinary)).length = 16 ∧ remapping.journal.activity = .appending ∧
      remapping.journal.requests = .append .commitEngine (.remap 0 264 8 .ordinary) :: [] ∧
      remapping.engine.job = some job ∧ job.fallback = none ∧ remapping.ctl.mode ≠ .drain ∧ ∀ i ∈ job.slots, i < 16 :=
  ⟨rfl, by decide +kernel, rfl, rfl, rfl, rfl, by decide +kernel, by decide⟩

/-- The tables after REMAP(0, 264, 8). -/
def remapped (t : Tables) : Tables :=
  ((t.setEntry 0 264).setState 264 .mapped (some 0)).setState 8 .spareDirty none

/-- With verify off, without and with a fallback cause; the cap leaves room for the source's retirement, or not. -/
theorem witness_RemapCompletionChangesFourParts_fallback (fallback : Option RetireCause) (t : Tables) :
    let s := ending .commitEngine (.remap 0 264 8 .ordinary) { job with fallback := fallback } t
    s.appendGood (.programEnd 0x00) .commitEngine (.remap 0 264 8 .ordinary) [] ∧ s.StagingLaw ∧
      (∃ j, s.engine.job = some j ∧ j.fallback = fallback) ∧ 264 ≠ 8 :=
  ⟨(ending_good ..).1, (ending_good ..).2, ⟨_, rfl, rfl⟩, by decide⟩

theorem remapped_record (t : Tables) (p : Nat) (h : p < 512) (h8 : p ≠ 8) (h264 : p ≠ 264) : (remapped t).record p = t.record p := by
  simp [remapped, Tables.setState, Tables.setRecord, Tables.setEntry, Tables.record, h, Ne.symm h8, Ne.symm h264]

theorem witness_RemapCompletionChangesFourParts_cap :
    (remapped emptyTables).retiredCount + (remapped emptyTables).pendingCount < 64 ∧
      64 ≤ (remapped cappedTables).retiredCount + (remapped cappedTables).pendingCount := by
  have mem : ∀ p ∈ sectorNumbers, p < 512 := fun p hp => by simpa [sectorNumbers, Config.physicalSectors] using hp
  have clear : ∀ p ∈ sectorNumbers, ((remapped emptyTables).record p).state ≠ some .retired ∧
      ((remapped emptyTables).record p).retirePending = false := by
    intro p hp
    by_cases h8 : p = 8
    · subst h8; decide +kernel
    by_cases h264 : p = 264
    · subst h264; decide +kernel
    rw [remapped_record _ _ (mem p hp) h8 h264]
    simp [Tables.record, emptyTables, mem p hp, Config.physicalSectors, SectorRecord.empty]
  constructor
  · have hr : (remapped emptyTables).retiredCount = 0 := by
      rw [Tables.retiredCount, List.length_eq_zero_iff, Tables.retiredSectors, List.filter_eq_nil_iff]
      exact fun p hp => by simpa using (clear p hp).1
    have hq : (remapped emptyTables).pendingCount = 0 := by
      rw [Tables.pendingCount, List.countP_eq_zero]
      exact fun p hp => by simp [(clear p hp).2]
    omega
  · have sub : (sectorNumbers.filter fun p => p != 8 && p != 264).Sublist (remapped cappedTables).retiredSectors := by
      have : (sectorNumbers.filter fun p => p != 8 && p != 264) =
          (remapped cappedTables).retiredSectors.filter fun p => p != 8 && p != 264 := by
        rw [Tables.retiredSectors, List.filter_filter]
        apply List.filter_congr
        intro p hp
        by_cases h : p = 8 ∨ p = 264
        · rcases h with h | h <;> simp [h]
        · have h' : p ≠ 8 ∧ p ≠ 264 := not_or.mp h
          rw [remapped_record _ _ (mem p hp) h'.1 h'.2]
          simp [Tables.record, cappedTables, mem p hp, Config.physicalSectors]
      rw [this]; exact List.filter_sublist
    have len : (sectorNumbers.filter fun p => p != 8 && p != 264).length = 510 := by decide +kernel
    have := sub.length_le
    rw [len] at this
    rw [Tables.retiredCount]
    omega

theorem witness_MapChangesAtAppendCompletionOnly :
    ∃ t, remapping.ModeLaw ∧ remapping.ctl.mode.inForce = true ∧
      exec (.readBackEnd (payloadImage (.remap 0 264 8 .ordinary))) remapping = .next t ∧ t.ctl.mode.inForce = true ∧
      t.tables.entry 0 ≠ remapping.tables.entry 0 :=
  ⟨_, ⟨nofun, fun _ => rfl, by decide +kernel, nofun⟩, rfl, rfl, by decide +kernel, by decide +kernel⟩

/-- READY with a RETIRE waiting in the journal's list, its append position as given. -/
def appending (who : Requester) (q : Nat) : State :=
  { ready with
    journal :=
      { ready.journal with
        appendPos := some q, requests := [.append who (.retire 264 .eraseFail)]
        pendingErase := Vector.replicate _ true } }

theorem witness_AppendProgramsEntryAtPosition :
    ∀ who : Requester, (appending who 255).journal.activity = .idle ∧ (appending who 255).journal.active = some 0 ∧
      (appending who 255).tables.usable 0 = true ∧ (appending who 255).journal.appendPos = some 255 ∧
      (appending who 255).journal.requests = .append who (.retire 264 .eraseFail) :: [] :=
  fun _ => ⟨rfl, rfl, (by decide +kernel : ready.tables.usable 0 = true), rfl, rfl⟩

/-- An append failed, six sectors staying usable or two; and one programmed well with verify on. -/
theorem witness_AppendProgramsEntryAtPosition_failed (who : Requester) (e : Payload) :
    (∀ t, (ending who e job t).appendBad (.programEnd 0x08) who e [] ∧ (ending who e job t).StagingLaw) ∧
      (ready.withdrawn 0).ctl.degraded = false ∧ 3 ≤ (List.range 8).countP (fun k => (ready.withdrawn 0).tables.usable k) ∧
      ({ ready with tables := emptyTables } : State).latched.ctl.degraded = true ∧
      (List.range 8).countP (fun k => emptyTables.usable k) < 3 ∧ ready.values.verify = true ∧ ready.journal.opening = none :=
  ⟨fun _ => ⟨⟨rfl, rfl, .inl ⟨_, _, _, _, rfl, rfl, by decide, by decide⟩⟩, (ending_good ..).2⟩, by decide +kernel,
    by decide +kernel, by decide +kernel, by decide +kernel, rfl, rfl⟩

theorem witness_FullSectorOpensNextUsable :
    (appending .commitEngine 256).journal.activity = .idle ∧ (appending .commitEngine 256).journal.active = some 0 ∧
      (appending .commitEngine 256).tables.usable 0 = true ∧ (appending .commitEngine 256).journal.appendPos = some 256 ∧
      (appending .commitEngine 256).ctl.degraded = false ∧ (appending .commitEngine 256).journal.sequence = some 1 ∧
      (appending .commitEngine 256).tables.usable ((0 + 1) % 8) = true ∧
      flagAt (appending .commitEngine 256).journal.pendingErase 1 = true := by decide +kernel

/-- READ_ONLY with a request waiting at a full active sector, for a job that holds no slot. -/
def failing (who : Requester) (e : Payload) : State :=
  { appending who 256 with
    ctl := { ready.ctl with mode := .readOnly, degraded := true }
    engine := { ready.engine with job := some { job with slots := [], awaited := some .retireTarget } }
    journal := { (appending who 256).journal with requests := [.append who e] } }

theorem witness_FullSectorOpensNextUsable_failing :
    ∀ who e, (failing who e).StagingLaw ∧ (failing who e).ctl.degraded = true ∧
      (failing who e).journal.requests = .append who e :: [] ∧ (failing who e).journal.activity = .idle ∧
      (failing who e).journal.appendPos = some 256 ∧
      ∃ j, (failing who e).engine.job = some j ∧ j.awaited ≠ some .retireSource :=
  fun _ _ => ⟨stagingLaw_empty _ rfl (by rintro j ⟨⟩; rfl), rfl, rfl, rfl, rfl, _, rfl, nofun⟩

/-- The ways a request begins: the candidate J1 of the active sector J0, with its pending erase flag set, clear, or as the previous
sector; and the last sequence number. -/
theorem witness_FullSectorOpensNextUsable_begun :
    (appending .commitEngine 256).StagingLaw ∧ (appending .commitEngine 256).journal.requests ≠ [] ∧
      (appending .commitEngine 256).nextSector 0 1 ∧ flagAt (appending .commitEngine 256).journal.pendingErase 1 = true ∧
      flagAt ready.journal.pendingErase 1 = false ∧ ready.journal.previous ≠ some 1 ∧
      ({ ready with journal := { ready.journal with previous := some 1 } } : State).journal.previous = some 1 ∧
      ({ ready with journal := { ready.journal with sequence := some 0xFFFFFFFE } } : State).journal.sequence =
        some 0xFFFFFFFE :=
  ⟨stagingLaw_empty _ rfl (by rintro j ⟨⟩), nofun, ⟨1, by decide, by decide, by decide, by decide +kernel, by omega⟩,
    by decide +kernel, by decide +kernel, nofun, rfl, rfl⟩

/-- An opening of J1 for an entry or to record a withdrawal, three checkpoint entries taken, at a stage, its operation as given. -/
def openingOf (purpose : OpenPurpose) (stage : OpenStage) : Opening :=
  { purpose := purpose, candidate := 1, number := 2, stage := stage, images := [[1], [2], [3]] }

def opening (purpose : OpenPurpose) (first : JournalRequest) (stage : OpenStage) (o : FlashOp) (at' : OpStage) : State :=
  let s := withOp ready .journal o at'
  { s with
    link := { s.link with erasing := some (eraseOf .journal .running) }
    journal :=
      { s.journal with activity := .opening, requests := [first], opening := some (openingOf purpose stage) } }

theorem witness_FullSectorOpensNextUsable_opening (purpose : OpenPurpose) (first : JournalRequest) (stage : OpenStage) (o : FlashOp)
    (at' : OpStage) :
    (opening purpose first stage o at').StagingLaw ∧ (opening purpose first stage o at').journal.activity = .opening ∧
      (opening purpose first stage o at').journal.opening = some (openingOf purpose stage) ∧
      (opening purpose first stage o at').journal.requests = first :: [] ∧
      (opening purpose first stage o at').link.op = some { user := .journal, op := o, stage := at' } ∧
      (opening purpose first stage o at').link.erasing = some (eraseOf .journal .running) ∧
      (eraseOf .journal .running).user = .journal ∧ (eraseOf .journal .running).progress = .running :=
  ⟨stagingLaw_empty _ rfl (by rintro j ⟨⟩), rfl, rfl, rfl, rfl, rfl, rfl, rfl⟩

/-- The head, a middle and the last position of the checkpoint read back well; a position that differs; a void that leaves no valid
head, and one that leaves the head. -/
theorem witness_FullSectorOpensNextUsable_positions (purpose : OpenPurpose) (first : JournalRequest) :
    (∀ q < 4, (opening purpose first (.check q) (.readBack 0 ((openingOf purpose (.check q)).imageAt q).length) .reading).positionGood
      (.readBackEnd ((openingOf purpose (.check q)).imageAt q)) (openingOf purpose (.check q)) q) ∧
      (opening purpose first (.check 1) (.readBack 0 1) .reading).positionBad (.readBackEnd [9]) (openingOf purpose (.check 1)) ∧
      (opening purpose first (.program 1) (.program 0 []) (.polling 0)).positionBad (.programEnd 0x08)
        (openingOf purpose (.program 1)) ∧
      (openingOf purpose .voidCheck).images.length = 3 ∧ validHead 1 (List.replicate 16 0) = none ∧
      validHead 1 (headImage 2 1) = some 2 :=
  ⟨fun q _ => .inr ⟨_, _, rfl, rfl, rfl, rfl⟩, .inr ⟨_, _, _, rfl, rfl, by cases purpose <;> decide, rfl⟩,
    .inl ⟨_, _, _, _, _, rfl, rfl, rfl, by decide, by decide⟩, rfl, by decide +kernel, by decide +kernel⟩

/-- That erase with the erase engine's activity as given. -/
def erasingFor (activity : EraserActivity) : State :=
  { erasing .eraseEngine .running with pool := { ready.pool with eraser := activity } }

theorem witness_EraseEngineRequestsAndEnds :
    (ready.pool.eraser = .idle ∧ ready.ctl.mode = .ready ∧ 264 ∈ ready.pool.spares ∧
        (ready.tables.record 264).state = some .spareDirty ∧ (ready.tables.record 264).retirePending = false) ∧
      (erasingFor (.erasingSpare 264)).link.op = some { user := .eraseEngine, op := .erase 264, stage := .polling 0 } ∧
      (erasingFor (.erasingSpare 264)).link.erasing = some (eraseOf .eraseEngine .running) ∧
      (erasingFor (.erasingSpare 264)).pool.eraser = .erasingSpare 264 ∧ (erasingFor .idle).staging.waiting = none ∧
      (0x00 : Byte).getLsbD 0 = false ∧ (0x00 : Byte).getLsbD 3 = false ∧ (0x08 : Byte).getLsbD 3 = true := by decide +kernel

/-- The erase of the stale sector J1 under way, J0 active, with an append of the commit engine in the list; an opening that waits
to erase J1, or none. -/
def erasingStale (waits : Bool) : State :=
  { ready with
    pool := { ready.pool with eraser := .erasingJournal 1 }
    journal :=
      { ready.journal with
        pendingErase := Vector.replicate _ true, requests := [.append .commitEngine (.remap 0 264 8 .ordinary)]
        activity := if waits then .opening else .idle
        opening :=
          if waits then some { purpose := .entry, candidate := 1, number := 2, stage := .erase, images := [] } else none }
    link :=
      { ready.link with
        op := some { user := .eraseEngine, op := .erase 1, stage := .polling 0 }
        erasing := some { eraseOf .eraseEngine .running with sector := 1 }
        requests := { ready.link.requests with commit := if waits then some (.journal, .erase 1) else none } } }

theorem witness_EraseEngineRequestsAndEnds_stale :
    let withdrawn := (erasingStale true).tables.setRecord 1 { (erasingStale true).tables.record 1 with usable := false }
    (erasingStale true).link.op = some { user := .eraseEngine, op := .erase 1, stage := .polling 0 } ∧
      (erasingStale true).pool.eraser = .erasingJournal 1 ∧ (erasingStale true).ctl.degraded = false ∧
      (erasingStale false).journal.opening = none ∧ (erasingStale false).journal.requests ≠ [] ∧
      (erasingStale true).link.requests.commit = some (.journal, .erase 1) ∧
      (erasingStale true).link.requests.eraseJournal = none ∧ (erasingStale true).journal.previous ≠ some 1 ∧
      3 ≤ (List.range 8).countP (fun k => withdrawn.usable k) ∧ (erasingStale true).journal.active = some 0 ∧
      withdrawn.usable ((0 + 1) % 8) = false ∧ withdrawn.usable ((0 + 2) % 8) = true ∧
      flagAt (erasingStale true).journal.pendingErase 2 = true := by decide +kernel

/-- READY has erase work and then none; with the tables empty J1's withdrawal cannot be recorded. -/
theorem witness_EraseEngineRequestsAndEnds_turn :
    ready.hasEraseWork ∧ ¬({ ready with pool := { ready.pool with spares := [] } } : State).hasEraseWork ∧
      ¬(3 ≤ (List.range 8).countP (fun k => (({ erasingStale false with tables := emptyTables } : State).withdrawn 1).tables.usable k)) :=
  ⟨.inl ⟨264, by decide +kernel, by decide +kernel, by decide +kernel⟩, by
    rintro (⟨p, h, _⟩ | ⟨j, hj, _, h⟩)
    · exact absurd h List.not_mem_nil
    · interval_cases j <;> exact absurd h (by decide +kernel), by decide +kernel⟩

/-- The commit engine's erase for allocation under way, over given tables. -/
def erasingTarget (t : Tables) : State :=
  { erasing .commitEngine .running with
    tables := t, engine := { ready.engine with job := some { early .allocate .relocate 0 with slots := [] } }
    journal := { ready.journal with requests := [.record 1] } }

theorem witness_EraseEngineRequestsAndEnds_target :
    (erasingTarget tables).link.op = some { user := .commitEngine, op := .erase 264, stage := .polling 0 } ∧
      ((erasingTarget tables).tables.record 264).state = some .spareDirty ∧ (erasingTarget tables).StagingLaw ∧
      (erasingTarget usableTables).tables.retiredCount + (erasingTarget usableTables).tables.pendingCount < 64 ∧
      64 ≤ (erasingTarget cappedTables).tables.retiredCount + (erasingTarget cappedTables).tables.pendingCount :=
  ⟨rfl, by decide +kernel, stagingLaw_empty _ rfl (by rintro j ⟨⟩; rfl),
    by rw [show (erasingTarget usableTables).tables = usableTables from rfl]; exact usableTables_counts,
    by rw [show (erasingTarget cappedTables).tables = cappedTables from rfl]; exact cappedTables_count⟩

theorem witness_SettleThenIdentifyThenScan :
    ∀ o stage, (withOp mounting .mount o stage).ctl.mount = some record ∧ (withOp mounting .mount o stage).link.stream = none ∧
      (withOp mounting .mount o stage).link.power = .awake ∧
      (withOp mounting .mount o stage).link.op = some { user := .mount, op := o, stage := stage } ∧
      (0x0A : Byte).getLsbD 0 = false ∧ (0x0A : Byte).getLsbD 2 = false :=
  fun _ _ => ⟨rfl, rfl, rfl, rfl, by decide, by decide⟩

theorem witness_MountEndsInFirstMode :
    (withOp mounting .mount (.mountRead 32768 64) .reading).link.op =
        some { user := .mount, op := .mountRead 32768 64, stage := .reading } ∧
      mounting.ctl.mount = some record ∧ record.format = none ∧ record.step = .record ∧ mounting.port.cycle = none ∧
      mounting.engine.job = none ∧ (∀ i < 16, (mounting.staging.slot i).state = .free) ∧
      (List.replicate 64 (0xFF : Byte)).length = 64 :=
  ⟨rfl, rfl, rfl, rfl, rfl, rfl, by decide +kernel, rfl⟩

/-- MOUNTING, a mount read of J0 or J7 in progress, the mount record as given. -/
def mountRead (m : MountRecord) (len : Nat) (fmt : Bool) : State :=
  let s := withOp mounting .mount (.mountRead 0 len) .reading
  { s with ctl := { s.ctl with mount := some m, fmt := fmt } }

/-- A mount record in SCAN or LOAD with the head table as given. -/
def scanning (step : MountStep) (reading : Nat) (heads : List HeadClass) : MountRecord :=
  { record with step := step, reading := reading, heads := Vector.ofFn fun j => heads.getD j.val .blank }

theorem witness_MountEndsInFirstMode_read (m : MountRecord) (fmt : Bool) (bytes : List Byte) (hm : m.format = none) :
    (mountRead m bytes.length fmt).link.op = some { user := .mount, op := .mountRead 0 bytes.length, stage := .reading } ∧
      (mountRead m bytes.length fmt).ctl.mount = some m ∧ m.format = none ∧ (mountRead m bytes.length fmt).ctl.mode = .mounting ∧
      (mountRead m bytes.length fmt).link.power = .awake ∧ (mountRead m bytes.length fmt).link.stream = none ∧
      (mountRead m bytes.length fmt).ctl.fmt = fmt :=
  ⟨rfl, rfl, hm, rfl, rfl, rfl, rfl⟩

theorem scanning_head (step : MountStep) (reading : Nat) (heads : List HeadClass) (j : Nat) (h : j < 8) :
    (scanning step reading heads).heads[j]? = some (heads.getD j .blank) := by
  simp [scanning, Config.journalSectors, h]

/-- The head tables of the decision of SCAN after a blank J7: all blank; none valid; two alike; J1 the newest, with J0 below it. -/
theorem witness_MountEndsInFirstMode_heads (step : MountStep) (reading : Nat) :
    headClassOf 7 (List.replicate 16 0xFF) = .blank ∧ (∀ j < 8, (scanning step reading []).heads[j]? = some .blank) ∧
      (scanning step reading [.notHead]).heads[0]? = some .notHead ∧
      (scanning step reading [.valid 4, .valid 4]).heads[0]? = some (.valid 4) ∧
      (scanning step reading [.valid 4, .valid 4]).heads[1]? = some (.valid 4) ∧
      (scanning step reading [.valid 4, .valid 5]).heads[0]? = some (.valid 4) ∧
      (scanning step reading [.valid 4, .valid 5]).heads[1]? = some (.valid 5) ∧
      ∀ j < 8, 2 ≤ j → (scanning step reading [.valid 4, .valid 5]).heads[j]? = some .blank := by
  refine ⟨by decide +kernel, fun j h => scanning_head _ _ _ j h, scanning_head _ _ _ 0 (by decide),
    scanning_head _ _ _ 0 (by decide), scanning_head _ _ _ 1 (by decide), scanning_head _ _ _ 0 (by decide),
    scanning_head _ _ _ 1 (by decide), fun j h h' => ?_⟩
  obtain ⟨k, rfl⟩ := Nat.exists_eq_add_of_le' h'
  exact scanning_head _ _ _ _ h

/-- J1 whole: the checkpoint of sequence number 5 with the identity map and J2 unusable, its incremental region blank. -/
def sectorImage : List Byte :=
  (headImage 5 1 :: checkpointImages 5 [] identityMap #v[true, true, false, true, true, true, true, true]).flatten
    ++ List.replicate 3024 0xFF

theorem sectorImage_blank (q : Nat) (h : 67 ≤ q) (h' : q < 256) : positionBytes sectorImage q = List.replicate 16 0xFF := by
  have len : (headImage 5 1 :: checkpointImages 5 [] identityMap #v[true, true, false, true, true, true, true, true]).flatten.length =
      1072 := by decide +kernel
  rw [positionBytes, sectorImage, List.drop_append, List.drop_eq_nil_of_le (by omega), len, List.nil_append, List.drop_replicate,
    List.take_replicate, Nat.min_eq_left (by omega)]

theorem sectorImage_replay (k : Checkpoint) : replay sectorImage k = some { map := k.map, retired := k.retired } := by
  have blank : classOf (List.replicate 16 0xFF) = .blank := by decide +kernel
  have pass : ∀ (start : Nat) (w : WorkTables) (l : List Nat), 67 ≤ start → (∀ i ∈ l, start + i < 256) →
      l.foldlM (fun w i => replayEntry w (classOf (positionBytes sectorImage (start + i)))) w = some w := by
    intro start w l hs
    induction l with
    | nil => intro _; rfl
    | cons i l ih =>
      intro hl
      rw [List.foldlM_cons, sectorImage_blank _ (by omega) (hl i List.mem_cons_self), blank]
      exact ih fun x hx => hl x (List.mem_cons_of_mem _ hx)
  exact pass _ _ _ (Nat.le_add_right _ _) fun i hi => by have := List.mem_range.mp hi; omega

/-- It is consistent for J1 and replayed, and not consistent for J2; a sector of blanks has no checkpoint. -/
theorem witness_MountEndsInFirstMode_sector :
    let k : Checkpoint := { count := 0, usable := 0xFB, map := identityMap, retired := [] }
    checkpointOf sectorImage 5 = some k ∧ (∀ p ∈ k.map, 8 ≤ p ∧ p < 512) ∧ k.map.Nodup ∧ k.usable.testBit 1 = true ∧
      k.usable.testBit 2 = false ∧ replay sectorImage k = some { map := k.map, retired := [] } ∧
      (checkpointOf (List.replicate 4096 0xFF) 5).isNone = true := by
  intro k
  have mem : ∀ p ∈ identityMap, 8 ≤ p ∧ p < 512 := by
    intro p hp
    obtain ⟨l, hl, rfl⟩ := List.mem_map.mp hp
    have := List.mem_range.mp hl
    simp only [Config.logicalSectors] at this
    omega
  exact ⟨by decide +kernel, mem, List.nodup_range.map fun a b h => by simpa using h, by decide, by decide, sectorImage_replay k,
    by decide +kernel⟩

/-- At the end of RECORD a cycle held for the mount: a read or a write, of bytes or of none, in each of the four first modes. -/
theorem witness_MountEndsInFirstMode_held (c : Cycle) (degraded warned : Bool) (hc : c.cond = .heldForMount) :
    let s := withOp mounting .mount (.mountRead 32768 64) .reading
    let t : State :=
      { s with
        port := { s.port with cycle := some c, hwaitn := false }
        ctl := { s.ctl with degraded := degraded, powerWarning := warned } }
    t.port.cycle = some c ∧ c.cond = .heldForMount ∧ t.ctl.powerWarning = warned ∧ t.ctl.degraded = degraded ∧
      t.link.requests.hostRead = none ∧ t.engine.job = none ∧ t.ctl.mount = some record :=
  ⟨rfl, hc, rfl, rfl, rfl, rfl, rfl⟩

/-- The default record locks nothing, so a write of a mount with an invalid record is let through. -/
theorem witness_MountEndsInFirstMode_write :
    (decodeRecord (List.replicate 64 0xFF)).lock = false ∧ (decodeRecord (List.replicate 64 0xFF)).ranges = [] := by decide +kernel

/-- A format erasing data sector 262. -/
def formatting : State :=
  let s := withOp mounting .mount (.erase 262) (.polling 0)
  { s with
    ctl := { s.ctl with mode := .formatting, mount := some { record with format := some (.eraseData 262) } }
    link := { s.link with erasing := some { eraseOf .mount .running with sector := 262 } } }

theorem witness_FormatErasesDataSectorsInTurn :
    formatting.link.op = some { user := .mount, op := .erase 262, stage := .polling 0 } ∧
      formatting.link.erasing = some { eraseOf .mount .running with sector := 262 } ∧
      formatting.ctl.mount = some { record with format := some (.eraseData 262) } ∧ formatting.link.stream = none ∧
      formatting.link.power = .awake ∧ (0x08 : Byte).getLsbD 3 = true ∧ (0x08 : Byte).getLsbD 0 = false ∧
      (0x00 : Byte).getLsbD 3 = false :=
  ⟨rfl, rfl, rfl, rfl, rfl, by decide, by decide, by decide⟩

/-! ## A few steps against the spec's worked examples -/

/-- The mode after a command. -/
def modeAfter (c : Instr) (s : State) : Option Mode :=
  match exec c s with
  | .next t => some t.ctl.mode
  | _ => none

/-- The port's pins after a command: HWAITn, HFAILn and the two lanes. -/
def pinsAfter (c : Instr) (s : State) : Option (Bool × Bool × Option Byte × Option Byte) :=
  match exec c s with
  | .next t => some (t.port.hwaitn, t.port.hfailn, t.port.hadLow, t.port.hadHigh)
  | _ => none

/-- The link events a command drives. -/
def drivenBy (c : Instr) (s : State) : Option (List LinkEvent) :=
  match exec c s with
  | .next t => some (t.wire.drop s.wire.length)
  | _ => none

/-- Chapter 7.9, cycle 2: a byte write at 0x0003F with the lock on is error-terminated. -/
theorem test_locked_record_refuses_byte_write :
    pinsAfter (.dataPhaseStart false false 0) (guarded 0x3F) = some (true, false, none, none) := by decide +kernel

/-- Chapter 7.9, cycle 1: a word write at 0x00040 is taken and answered normally. -/
theorem test_word_above_record_taken :
    pinsAfter (.dataPhaseStart false false 0) (guarded 0x40) = some (true, true, none, none) := by decide +kernel

/-- Chapter 7.9, cycle 4: the expired read shows 0xFFFF and HFAILn low. -/
theorem test_expired_read_shows_ones :
    pinsAfter .readyHoldLimitExpiry
      { reading with port := { reading.port with cycle := some { waitingRead with waitStart := 999500 } } } =
      some (true, false, some 0xFF, some 0xFF) := by decide +kernel

/-- Chapter 7.9, cycle 6: a write that names no byte is answered normally. -/
theorem test_no_byte_write_answered :
    pinsAfter (.dataPhaseStart false true 0) (guarded 0x201) = some (true, true, none, none) := by decide +kernel

/-- R156, R157: a power warning with a slot held drains, with none it halts at once. -/
theorem test_power_warning_modes :
    modeAfter .powerWarningAssertion filling = some .drain ∧ modeAfter .powerWarningAssertion ready = some .halted := by
  decide +kernel

/-- R45, R60, R115: REMAP completes with a slot of logical sector 255 queued and the erase engine's request standing: the next job is
taken in the same step, and its read is granted before the erase. -/
theorem test_next_job_before_erase :
    (match exec (.readBackEnd (payloadImage (.remap 0 264 8 .ordinary)))
        { remapping with
          staging := { remapping.staging.setSlot 4 (slotOf .sealed 4095 none) with queue := [4] }
          pool := { remapping.pool with eraser := .requesting }
          link := { remapping.link with requests := { remapping.link.requests with erase := true } } } with
      | .next t => (t.engine.job.map (·.logical), t.link.granted, t.link.requests.commit)
      | _ => (none, none, none)) =
      (some 255, some .commit, some (.commitEngine, .pageRead (263 * 4096 + 15 * 256))) := by decide +kernel

/-- R169: the end of reset wakes the flash; R130: any other identity is a link fault. -/
theorem test_mount_opening_events :
    drivenBy (.resetRelease true false false true) State.reset = some [.powerUp] ∧
      modeAfter (.identifyEnd 0x49 0x44 0x24) (withOp mounting .mount .identify .reading) = some .fault := by decide +kernel

/-- On an empty queue a step lets 1 µs pass (log entry 1), and no word spells a command (log entry 24). -/
theorem test_idle_step : (match step ready with | .next t => t.now | _ => 0) = 1000001 ∧ decodeTableWord 8 0xA1 = none := by
  decide +kernel

end Sys2Proof.Tests
end

section
namespace Sys2Proof.Machine

/-! ## Addresses -/

/-- A field of an address as a number: the low `k` bits dropped, the next `n` kept. -/
theorem LogAddr.toNat_field (a : LogAddr) (k n : Nat) : (a.extractLsb' k n).toNat = a.toNat / 2 ^ k % 2 ^ n := by
  rw [BitVec.extractLsb'_toNat, Nat.shiftRight_eq_div_pow]

/-- The address after an even one. -/
theorem LogAddr.toNat_add_one_of_even (a : LogAddr) (h : a.getLsbD 0 = false) :
    a.toNat % 2 = 0 ∧ (a + 1).toNat = a.toNat + 1 := by
  have even : a.toNat % 2 = 0 := by
    rw [BitVec.getLsbD, Nat.testBit_zero] at h
    simpa using h
  exact ⟨even, by rw [BitVec.toNat_add]; have := a.isLt; simp; omega⟩

/-- Settles O13: every part is a field of the address's twenty bits, and an even address never ends a page. -/
theorem addressSplitsIntoParts : Obligations.AddressSplitsIntoParts := by
  intro a
  have bound := a.isLt
  simp only [logicalSectorOf, pageInSector, pageOf, offsetOf, sectorOfPage, LogAddr.toNat_field]
  refine ⟨by omega, by omega, by omega, by omega, by omega, by omega, by omega, by omega, by omega, by omega, fun h => ?_⟩
  obtain ⟨even, next⟩ := LogAddr.toNat_add_one_of_even a h
  rw [next]
  exact ⟨by omega, by omega⟩

/-! ## INSTALL -/

/-- The map entry that an install gives is the working map's (R176). -/
theorem installedTables_entry (m : MountRecord) (l : Nat) (hl : l < 256) : (installedTables m).entry l = m.workMap[l]? := by
  simp [Tables.entry, installedTables, Config.logicalSectors, hl]

/-- The record that an install gives a sector (R17). -/
theorem installedTables_record (m : MountRecord) (p : Nat) (hp : p < 512) : (installedTables m).record p = installedRecord m p := by
  simp [Tables.record, installedTables, Config.physicalSectors, hp]

theorem installedRecord_journal (m : MountRecord) (j : Nat) (hj : j < 8) :
    installedRecord m j = { state := some .journal, owner := none, retirePending := false, usable := flagAt m.workUsable j } := by
  simp [installedRecord, Config.journalSectors, hj, SectorRecord.empty]

theorem installedRecord_mapped (m : MountRecord) (l p : Nat) (once : m.workMap.Nodup) (hp : 8 ≤ p) (h : m.workMap[l]? = some p) :
    installedRecord m p = { state := some .mapped, owner := some l, retirePending := false, usable := false } := by
  obtain ⟨hl, rfl⟩ := List.getElem?_eq_some_iff.mp h
  have found : m.workMap.findIdx? (· == m.workMap[l]) = some l := by
    rw [List.findIdx?_eq_some_iff_getElem]
    refine ⟨hl, by simp, fun k hk => ?_⟩
    simpa using fun he => (Nat.ne_of_lt hk) ((once.getElem_inj_iff).mp he)
  simp [installedRecord, Config.journalSectors, SectorRecord.empty, found, Nat.not_lt.mpr hp]

/-- The record of a data sector outside the working map: RETIRED in the working retired set, else SPARE_DIRTY. -/
theorem installedRecord_unmapped (m : MountRecord) (p : Nat) (hp : 8 ≤ p) (h : p ∉ m.workMap) :
    installedRecord m p =
      { state := some (if p ∈ m.workRetired then .retired else .spareDirty), owner := none, retirePending := false,
        usable := false } := by
  have absent : m.workMap.findIdx? (· == p) = none := by
    rw [List.findIdx?_eq_none_iff]
    intro q hq
    simpa using fun he : q = p => h (he ▸ hq)
  by_cases hr : p ∈ m.workRetired <;>
    simp [installedRecord, Config.journalSectors, SectorRecord.empty, absent, Nat.not_lt.mpr hp, hr]

/-- The installed sectors that are SPARE_DIRTY: the data sectors neither mapped nor retired. -/
theorem installedRecord_dirty_iff (m : MountRecord) (p : Nat) (once : m.workMap.Nodup) :
    (installedRecord m p).state = some .spareDirty ↔ 8 ≤ p ∧ p ∉ m.workMap ∧ p ∉ m.workRetired := by
  by_cases hj : p < 8
  · simp [installedRecord_journal m p hj, Nat.not_le.mpr hj]
  have data : 8 ≤ p := Nat.not_lt.mp hj
  by_cases hm : p ∈ m.workMap
  · obtain ⟨l, hl⟩ := List.getElem?_of_mem hm
    simp [installedRecord_mapped m l p once data hl, hm]
  · by_cases hr : p ∈ m.workRetired <;> simp [installedRecord_unmapped m p data hm, data, hm, hr]

/-- Settles O20: each sector is of one of the install's four kinds, and the spare list is the ascending list of the dirty ones. -/
theorem installedTablesFollowWorkingMap : Obligations.InstalledTablesFollowWorkingMap := by
  intro m whole once data apart
  have dataBounds : ∀ p, isDataSector p = true → 8 ≤ p ∧ p < 512 := by
    intro p h
    simp only [isDataSector, Bool.and_eq_true, decide_eq_true_eq] at h
    omega
  refine ⟨fun l hl p h => ?_, fun p h => ?_, fun p low high hm hr => ?_, fun p => ?_, ?_, fun j hj => ?_⟩
  · obtain ⟨low, high⟩ := dataBounds p (data p (List.mem_of_getElem? h))
    exact ⟨(installedTables_entry m l hl).trans h,
      (installedTables_record m p high).trans (installedRecord_mapped m l p once low h)⟩
  · obtain ⟨isData, unmapped⟩ := apart p h
    obtain ⟨low, high⟩ := dataBounds p isData
    rw [installedTables_record m p high, installedRecord_unmapped m p low unmapped, if_pos h]
  · rw [installedTables_record m p high, installedRecord_unmapped m p low hm, if_neg hr]
  · simp only [installedSpares, sectorNumbers, Config.physicalSectors, List.mem_filter, List.mem_range, beq_iff_eq,
      installedRecord_dirty_iff m p once]
    tauto
  · exact List.pairwise_lt_range.filter _
  · rw [installedTables_record m j (by omega), installedRecord_journal m j hj]

/-! ## LINK_GRANT of a host read run -/

/-- A host read run that stands outstanding on an idle link, with no other request's grant standing, is what the arbiter grants
(R114, R115, R120). -/
theorem State.award_hostRead (s : State) (r : Run) (ho : s.link.op = none)
    (hg : ∀ l, s.link.granted = some l → l = .hostRead ∨ s.link.requests.holds l = false)
    (hr : s.link.requests.hostRead = some r) : s.award = some .hostRead := by
  have holds : s.link.requests.holds .hostRead = true := by simp [Requests.holds, hr]
  by_cases h : s.link.granted = some .hostRead
  · exact s.award_stands _ ho h holds
  have none_stands : ∀ l, s.link.granted = some l → s.link.requests.holds l = false := fun l hl =>
    (hg l hl).resolve_left fun he => h (he ▸ hl)
  by_cases hs : s.link.suspended = true
  · rw [s.award_suspended ho none_stands hs, hr]; rfl
  · rw [s.award_free ho none_stands (by simpa using hs)]
    simp [State.firstInLine, holds]

/-- LINK_GRANT of a host read run on an idle link: the run, committed and translated through the map, is begun (R115, R117, R10). -/
theorem exec_linkGrant_hostRead (s : State) (r : Run) (ho : s.link.op = none)
    (hg : ∀ l, s.link.granted = some l → l = .hostRead ∨ s.link.requests.holds l = false)
    (hr : s.link.requests.hostRead = some r) :
    exec .linkGrant s = .next
      ((s.withLink
        { s.link with granted := none, requests := { s.link.requests with hostRead := none } }).startOp .readService
          (.hostRun { r with committed := true } (s.runAddr r))).closeStep := by
  have award := s.award_hostRead r ho hg hr
  simp [exec, execLinkGrant, ho, State.arbitrate, award, hr, State.beginGranted, State.grantRun, State.withLink,
    State.withRequests, State.runAddr]

/-- A host read run begun on an awake flash: the open stream continued at its next address, else closed and READ issued (R122,
R123). -/
theorem State.startOp_hostRun (s : State) (user : LinkUser) (r : Run) (addr : Nat) (h : s.link.power = .awake) :
    s.startOp user (.hostRun r addr) =
      if s.link.stream = some addr then
        { s with
          link := { s.link with op := some { user := user, op := .hostRun r addr, stage := .reading } }
          wire := s.wire ++ [.continueRead r.len] }
      else
        { s with
          link := { s.link with stream := none, op := some { user := user, op := .hostRun r addr, stage := .reading } }
          wire := s.wire ++ ((if s.link.stream.isSome then [.closeStream] else []) ++ [.read addr r.len]) } := by
  by_cases hs : s.link.stream = some addr <;>
    simp [State.startOp, h, hs, PowerState.needsWake, State.firstCommand, State.beginRead, State.closeStream_eq, State.drive,
      State.setOp, State.withOp, State.withLink]

/-- With an operation in progress the end of a step forgets a grant made before (R115). -/
theorem State.closeStep_grant_dropped (s t : State) (g : Option Level) (h : t.link.op ≠ none)
    (hs : s = t.withLink { t.link with granted := g }) : s.closeStep = t.closeStep := by
  subst hs
  rw [State.closeStep, State.closeStep, t.arbitrate_busy h, State.arbitrate_busy (t.withLink { t.link with granted := g }) h]
  rfl

/-- Settles O44: LINK_GRANT begins the committed run at its translated address, on a flash that is awake or is to be woken; the
operation in progress makes the grant's record immaterial. -/
theorem hostRunGranted : Obligations.HostRunGranted := by
  rintro s r p addr ho hg hr hp rfl
  have translated : s.runAddr r = p * 4096 + r.page % 16 * 256 + r.offset := by
    simp [State.runAddr, sectorOfPage, hp, physAddr, pageInSector]
  have granted := exec_linkGrant_hostRead s r ho hg hr
  rw [translated] at granted
  refine ⟨fun awake stream => ?_, fun awake stream => ?_, fun asleep => ?_⟩ <;> rw [granted]
  · rw [State.startOp_hostRun (h := by exact awake), if_pos (by exact stream)]
    exact congrArg _ (State.closeStep_grant_dropped _ _ none (Option.some_ne_none _) rfl)
  · rw [State.startOp_hostRun (h := by exact awake), if_neg (by exact stream)]
    exact congrArg _ (State.closeStep_grant_dropped _ _ none (Option.some_ne_none _) rfl)
  · have wakes : s.link.power.needsWake = true := by rcases asleep with h | h <;> simp [h, PowerState.needsWake]
    rw [State.startOp_asleep (h := by exact wakes) (ho := by simp)]
    exact congrArg _ (State.closeStep_grant_dropped _ _ none (Option.some_ne_none _) rfl)

end Sys2Proof.Machine
end

section
namespace Sys2Proof.Machine

/-! ## FAULT with work left

The entry to FAULT empties every block (R166), and no run reaches FAULT with work left; but none of the laws says so. In FAULT the
tables are not held, so that `TableLaw` is without content there, while `WorkLaw` speaks of the work under way in every mode. -/

/-- FAULT with every sector's record SPARE_CLEAN and two pieces of work under way: the erase engine waits for the RETIRE of
sector 9, the one sector of the spare list, and the commit engine's erase of sector 8, asked for so that its job gets a target, is
granted the link. -/
def faultWithWork : State :=
  { State.reset with
    engine :=
      { CommitEngine.reset with
        job := some
          { logical := 0, source := 8, slots := [], kind := .relocate, target := none, attempt := 1, cursor := 0,
            phase := .allocate, fallback := none, awaited := none } }
    tables :=
      { map := Vector.replicate _ (some 8)
        sector := Vector.replicate _ { SectorRecord.empty with state := some .spareClean } }
    journal := { Journal.reset with requests := [.append .eraseEngine (.retire 9 .eraseFail)] }
    pool := { spares := [9], eraser := .retiring 9 }
    link :=
      { Link.reset with
        power := .awake, requests := { Requests.empty with commit := some (.commitEngine, .erase 8) }, granted := some .commit }
    ctl := { ModeControl.reset with mode := .fault, rstnLow := false }
    pending := [.linkGrant] }

theorem faultWithWork_sound : faultWithWork.Sound where
  reset := ⟨nofun, nofun, nofun, nofun, nofun, nofun, nofun, nofun, nofun, nofun, nofun, nofun, nofun⟩
  mode := ⟨nofun, by decide, by decide, nofun⟩
  port :=
    { hwaitn := rfl
      hfailn := rfl
      driven := by decide
      wide := nofun
      waiting := rfl
      ready := nofun
      heldForMount := nofun }
  link :=
    { asleep := nofun
      waking := ⟨nofun, fun ⟨_, _, h, _⟩ => nomatch h⟩
      suspended := nofun
      running := nofun
      granted := by rintro l ⟨⟩; exact ⟨rfl, rfl, nofun⟩
      committed := nofun
      free := nofun
      served := nofun }
  doze := rfl

theorem faultWithWork_tablesNotHeld : ¬faultWithWork.tablesHeld := by
  rintro (h | ⟨h, -⟩) <;> exact nomatch h

theorem faultWithWork_tableLaw : faultWithWork.TableLaw := by
  constructor <;> exact fun h => absurd h faultWithWork_tablesNotHeld

theorem faultWithWork_slot (i : Nat) : faultWithWork.staging.slot i = .empty := by
  by_cases h : i < 16 <;> simp [faultWithWork, State.reset, Staging.reset, Staging.slot, h, Config.slotCount]

theorem faultWithWork_sourceMapped (j : Job) (h : faultWithWork.engine.job = some j) : faultWithWork.sourceMapped j := by
  obtain rfl := Option.some.inj h
  exact ⟨by decide, by decide +kernel⟩

theorem faultWithWork_workLaw : faultWithWork.WorkLaw where
  pages i p h := by rw [faultWithWork_slot] at h; exact nomatch h
  waitingPage := nofun
  engine o h := by
    have only : o = .erase 8 := by
      rcases h with (⟨_, h⟩ | ⟨_, h, _⟩) | h
      · exact nomatch h
      · exact nomatch h
      · cases h; rfl
    subst only
    exact ⟨⟨_, rfl, faultWithWork_sourceMapped _ rfl, rfl, rfl⟩, by simp [faultWithWork]⟩
  engineOnce o h := by rcases h with ⟨_, h⟩ | ⟨_, h, _⟩ <;> exact nomatch h
  engineErase p h := by rcases h with ⟨_, h⟩ | ⟨_, h, _⟩ <;> exact nomatch h
  eraserErase := nofun
  requesting := nofun
  appends who e h := by
    obtain ⟨rfl, rfl⟩ : who = .eraseEngine ∧ e = .retire 9 .eraseFail := by simpa [faultWithWork] using h
    exact ⟨rfl, by decide⟩
  records j h := by simp [faultWithWork] at h
  oneEach who := by cases who <;> decide
  sectorsApart p c d h := by simp [faultWithWork] at h
  recording := nofun
  openingInForce := nofun
  mountIdle := nofun
  mountOpening := nofun
  mountInstall := nofun

/-- The grant finds sector 8 no dirty spare and asks for a target again (R92), and the clean sector 9 is allocated (R90): it leaves
the spare list with its RETIRE still in the journal's list. -/
theorem step_faultWithWork : ∃ t, step faultWithWork = .next t ∧
    t.journal.requests = [.append .eraseEngine (.retire 9 .eraseFail)] ∧ t.pool.spares = [] := by
  refine ⟨((faultWithWork.withPending []).arbitrate.beginGranted).closeStep, rfl, ?_, ?_⟩
  · simp only [State.closeStep_journal, State.beginGranted_journal, State.arbitrate_journal]
    rfl
  · rw [State.closeStep_pool]
    decide +kernel

/-- Refutes O6: in FAULT `WorkLaw` is not kept. A job's target is taken from the spare list although the erase engine's RETIRE of
the same sector stands in the journal's list: nothing there makes that sector retire pending, which alone keeps it from being
chosen. -/
theorem not_stepKeepsTableLaw : ¬Obligations.StepKeepsTableLaw := by
  intro kept
  obtain ⟨t, stepped, requests, spares⟩ := step_faultWithWork
  obtain ⟨-, work⟩ := kept _ t faultWithWork_sound faultWithWork_tableLaw faultWithWork_workLaw stepped
  obtain ⟨-, listed⟩ : t.waitsFor .eraseEngine (.retire 9 .eraseFail) := work.appends _ _ (by simp [requests])
  exact absurd listed (by simp [spares])

end Sys2Proof.Machine
end

section
namespace Sys2Proof.Machine

/-! ## Slots -/

/-- A number above 15 names no slot. -/
theorem Staging.slot_of_ge (g : Staging) (i : Nat) (h : 16 ≤ i) : g.slot i = .empty := by
  simp [Staging.slot, Config.slotCount, h]

/-- A slot that is not FREE has a number up to 15. -/
theorem Staging.lt_of_not_free (g : Staging) (i : Nat) (h : (g.slot i).state ≠ .free) : i < 16 := by
  by_contra hi
  exact h (by rw [g.slot_of_ge i (Nat.not_lt.mp hi)]; rfl)

theorem Staging.lt_of_isOpen (g : Staging) (i : Nat) (h : (g.slot i).isOpen = true) : i < 16 :=
  g.lt_of_not_free i fun hf => by simp [Slot.isOpen, hf] at h

/-- One change made to each slot of a list, the change being the same when it is made twice. -/
theorem Staging.slot_foldl (f : Staging → Nat → Staging) (change : Slot → Slot) (once : ∀ x, change (change x) = change x)
    (single : ∀ g i k, (f g i).slot k = if i = k ∧ k < 16 then change (g.slot k) else g.slot k) (l : List Nat) (g : Staging)
    (k : Nat) : (l.foldl f g).slot k = if k ∈ l ∧ k < 16 then change (g.slot k) else g.slot k := by
  induction l generalizing g with
  | nil => simp
  | cons i l ih =>
    rw [List.foldl_cons, ih, single]
    by_cases hk : k < 16 <;> by_cases hl : k ∈ l <;> by_cases hi : i = k <;> simp [hk, hl, hi, once, @eq_comm _ k i]

/-- A part of the staging buffer that a change of one slot leaves alone, a list of them leaves alone. -/
theorem Staging.foldl_frame {α : Type} (part : Staging → α) (f : Staging → Nat → Staging) (frame : ∀ g i, part (f g i) = part g)
    (l : List Nat) (g : Staging) : part (l.foldl f g) = part g := by
  induction l generalizing g with
  | nil => rfl
  | cons i l ih => rw [List.foldl_cons, ih, frame]

/-- The slots of a good end are FREE (R33). -/
theorem Staging.slot_freeSlots (g : Staging) (l : List Nat) (k : Nat) :
    (g.freeSlots l).slot k = if k ∈ l ∧ k < 16 then (g.slot k).freed else g.slot k :=
  slot_foldl Staging.freeSlot Slot.freed (fun _ => rfl)
    (fun g i k => by rw [Staging.freeSlot, slot_setSlot]; split <;> simp_all) l g k

@[simp] theorem Staging.freeSlots_queue (g : Staging) (l : List Nat) : (g.freeSlots l).queue = g.queue :=
  foldl_frame Staging.queue Staging.freeSlot (fun _ _ => rfl) l g

@[simp] theorem Staging.freeSlots_waiting (g : Staging) (l : List Nat) : (g.freeSlots l).waiting = g.waiting :=
  foldl_frame Staging.waiting Staging.freeSlot (fun _ _ => rfl) l g

/-- A slot's state replaced. -/
theorem Staging.slot_setSlotState (g : Staging) (st : SlotState) (i k : Nat) :
    (g.setSlotState st i).slot k = if i = k ∧ k < 16 then { g.slot k with state := st } else g.slot k := by
  rw [Staging.setSlotState, slot_setSlot]; split <;> simp_all

/-- The slots taken are COMMITTING (R31). -/
theorem Staging.slot_take (g : Staging) (l : List Nat) (k : Nat) :
    (g.take l).slot k = if k ∈ l ∧ k < 16 then { g.slot k with state := .committing } else g.slot k :=
  slot_foldl (fun h i => h.setSlotState .committing i) (fun x => { x with state := .committing }) (fun _ => rfl)
    (fun g i k => g.slot_setSlotState .committing i k) l _ k

@[simp] theorem Staging.take_queue (g : Staging) (l : List Nat) : (g.take l).queue = g.queue.filter fun i => !l.contains i :=
  foldl_frame Staging.queue (fun h i => h.setSlotState .committing i) (fun _ _ => rfl) l _

@[simp] theorem Staging.take_waiting (g : Staging) (l : List Nat) : (g.take l).waiting = g.waiting :=
  foldl_frame Staging.waiting (fun h i => h.setSlotState .committing i) (fun _ _ => rfl) l _

/-! ## Absorption -/

/-- The bytes of a list put into a slot leave all but data and written map. -/
theorem Slot.putAll_frame (x : Slot) (l : List (Nat × Byte)) :
    (x.putAll l).state = x.state ∧ (x.putAll l).page = x.page ∧ (x.putAll l).rank = x.rank := by
  induction l generalizing x with
  | nil => exact ⟨rfl, rfl, rfl⟩
  | cons b l ih => exact ih (x.put b.1 b.2)

/-- A byte read after a list of bytes, no two at one offset, is put into a slot. -/
theorem Slot.byte_putAll (x : Slot) (l : List (Nat × Byte)) (once : (l.map Prod.fst).Nodup) (o : Nat) (ho : o < 256) :
    (∀ v, (o, v) ∈ l → (x.putAll l).byte o = some v) ∧ ((∀ v, (o, v) ∉ l) → (x.putAll l).byte o = x.byte o) := by
  induction l generalizing x with
  | nil => exact ⟨nofun, fun _ => rfl⟩
  | cons b l ih =>
    obtain ⟨fresh, once⟩ := List.nodup_cons.mp once
    obtain ⟨inside, outside⟩ := ih (x.put b.1 b.2) once
    refine ⟨fun v hv => ?_, fun absent => ?_⟩
    · rcases List.mem_cons.mp hv with rfl | hv
      · refine (outside fun w hw => fresh (List.mem_map.mpr ⟨_, hw, rfl⟩)).trans ?_
        rw [Slot.byte_put, if_pos ⟨rfl, ho⟩]
      · exact inside v hv
    · refine (outside fun v hv => absent v (List.mem_cons_of_mem _ hv)).trans ?_
      rw [Slot.byte_put, if_neg]
      rintro ⟨rfl, -⟩
      exact absent b.2 List.mem_cons_self

theorem Slot.mem_presentBytes (x : Slot) (o : Nat) (v : Byte) : (o, v) ∈ x.presentBytes ↔ o < 256 ∧ x.byte o = some v := by
  simp [Slot.presentBytes, Config.pageBytes]

theorem Slot.presentBytes_nodup (x : Slot) : (x.presentBytes.map Prod.fst).Nodup := by
  have offsets : x.presentBytes.map Prod.fst = (List.range 256).filter fun o => (x.byte o).isSome := by
    rw [Slot.presentBytes, List.map_filterMap, ← List.filterMap_eq_filter]
    congr 1
    funext o
    cases h : x.byte o <;> simp [h, Option.guard]
  rw [offsets]
  exact List.nodup_range.filter _

/-- A byte of an absorbing slot is the newer slot's where it has one there, else its own (R35). -/
theorem Slot.byte_absorb (older newer : Slot) (o : Nat) (ho : o < 256) :
    (∀ v, newer.byte o = some v → (older.absorb newer).byte o = some v) ∧
      (newer.byte o = none → (older.absorb newer).byte o = older.byte o) := by
  obtain ⟨inside, outside⟩ := older.byte_putAll newer.presentBytes newer.presentBytes_nodup o ho
  refine ⟨fun v hv => inside v ((newer.mem_presentBytes o v).mpr ⟨ho, hv⟩), fun hn => outside fun v hv => ?_⟩
  have := ((newer.mem_presentBytes o v).mp hv).2
  simp [hn] at this

/-! ## Slots found by page -/

theorem Staging.openSlot_some (g : Staging) (page n : Nat) (h : g.openSlot page = some n) :
    (g.slot n).isOpen = true ∧ (g.slot n).page = some page := by
  simpa using List.find?_some h

theorem Staging.openSlot_none (g : Staging) (page : Nat) (h : g.openSlot page = none) (n : Nat)
    (hn : (g.slot n).isOpen = true) : (g.slot n).page ≠ some page := by
  have := List.find?_eq_none.mp h n (List.mem_range.mpr (g.lt_of_isOpen n hn))
  simpa [hn] using this

theorem Staging.committingSlot_some (g : Staging) (page i : Nat) (h : g.committingSlot page = some i) :
    (g.slot i).state = .committing ∧ (g.slot i).page = some page := by
  simpa using List.find?_some h

theorem Staging.committingSlot_ne_none (g : Staging) (page i : Nat) (hi : (g.slot i).state = .committing)
    (hp : (g.slot i).page = some page) : g.committingSlot page ≠ none := by
  intro h
  have := List.find?_eq_none.mp h i (List.mem_range.mpr (g.lt_of_not_free i (by simp [hi])))
  simp [hi, hp] at this

/-! ## Slots handed back -/

/-- A rank closed changes no slot but in its rank, and a slot without rank not at all (R18). -/
theorem Staging.slot_closeRank (g : Staging) (rank : Option Nat) :
    ∃ f, ∀ k, (g.closeRank rank).slot k = { g.slot k with rank := (g.slot k).rank.map f } := by
  cases rank with
  | none => exact ⟨id, fun k => by simp [Staging.closeRank]⟩
  | some r =>
    refine ⟨fun k => if r < k then k - 1 else k, fun k => ?_⟩
    by_cases hk : k < 16
    · simp [Staging.closeRank, Staging.dropRanksAbove, Staging.slot, Config.slotCount, hk]
    · rw [slot_of_ge _ k (Nat.not_lt.mp hk), slot_of_ge _ k (Nat.not_lt.mp hk)]
      rfl

@[simp] theorem Staging.closeRank_queue (g : Staging) (rank : Option Nat) : (g.closeRank rank).queue = g.queue := by
  cases rank <;> rfl

@[simp] theorem Staging.closeRank_waiting (g : Staging) (rank : Option Nat) : (g.closeRank rank).waiting = g.waiting := by
  cases rank <;> rfl

/-- Slot n is an open slot of slot i's page. -/
def Staging.newerOf (g : Staging) (n i : Nat) : Prop :=
  (g.slot n).isOpen = true ∧ (g.slot n).page = (g.slot i).page

/-- The slots of a list can be handed back: COMMITTING, of different pages, no page with two open slots. -/
structure Staging.Returnable (g : Staging) (l : List Nat) : Prop where
  committing : ∀ i ∈ l, (g.slot i).state = .committing
  paged : ∀ i ∈ l, (g.slot i).page ≠ none
  apart : l.Pairwise fun i k => (g.slot i).page ≠ (g.slot k).page
  once : ∀ i ∈ l, ∀ a b, g.newerOf a i → g.newerOf b i → a = b

/-- h is g with the slots of a list handed back (R34, R35): SEALED, the newer open slot of each page absorbed, the other slots as
they were but for their ranks. -/
structure Staging.Returned (g h : Staging) (l : List Nat) : Prop where
  state : ∀ i ∈ l, (h.slot i).state = .sealed
  page : ∀ i ∈ l, (h.slot i).page = (g.slot i).page
  rank : ∀ k, (g.slot k).rank = none → (h.slot k).rank = none
  newer : ∀ i ∈ l, ∀ n, g.newerOf n i → ∀ o < 256, ∀ v, (g.slot n).byte o = some v → (h.slot i).byte o = some v
  older : ∀ i ∈ l, ∀ o < 256, (∀ n, g.newerOf n i → (g.slot n).byte o = none) → (h.slot i).byte o = (g.slot i).byte o
  absorbed : ∀ i ∈ l, ∀ n, g.newerOf n i → (h.slot n).state = .free ∧ n ∉ h.queue
  others : ∀ k ∉ l, (∀ i ∈ l, ¬g.newerOf k i) → ∃ r, h.slot k = { g.slot k with rank := r }
  sublist : h.queue.Sublist g.queue
  queue : ∀ k ∈ g.queue, (∀ i ∈ l, ¬g.newerOf k i) → k ∈ h.queue
  waiting : h.waiting = g.waiting

/-- A COMMITTING slot is no open one. -/
theorem Staging.ne_of_newerOf (g : Staging) (n i k : Nat) (h : g.newerOf n i) (hk : (g.slot k).state = .committing) : n ≠ k := by
  rintro rfl
  simp [Staging.newerOf, Slot.isOpen, hk] at h

/-- What absorbing slot n into slot i makes of each slot (R35). -/
theorem Staging.slot_absorb (g : Staging) (i n : Nat) (hi : i < 16) (hn : n < 16) :
    ∃ f, ∀ k, (g.absorb i n).slot k =
      { (if n = k then (g.slot n).freed else if i = k then (g.slot i).absorb (g.slot n) else g.slot k) with
        rank := (if n = k then (g.slot n).freed else if i = k then (g.slot i).absorb (g.slot n) else g.slot k).rank.map f } := by
  obtain ⟨f, hf⟩ := Staging.slot_closeRank
    { (g.setSlot i ((g.slot i).absorb (g.slot n))).setSlot n (g.slot n).freed with
      queue := ((g.setSlot i ((g.slot i).absorb (g.slot n))).setSlot n (g.slot n).freed).queue.filter (· != n) } (g.slot n).rank
  refine ⟨f, fun k => ?_⟩
  have base : ((g.setSlot i ((g.slot i).absorb (g.slot n))).setSlot n (g.slot n).freed).slot k =
      if n = k then (g.slot n).freed else if i = k then (g.slot i).absorb (g.slot n) else g.slot k := by
    rw [slot_setSlot, slot_setSlot]
    by_cases h1 : n = k <;> by_cases h2 : i = k <;> simp_all
  rw [← base]
  exact hf k

theorem Staging.absorb_queue (g : Staging) (i n : Nat) : (g.absorb i n).queue = g.queue.filter (· != n) := by
  simp [Staging.absorb, Staging.setSlot]

theorem Staging.absorb_waiting (g : Staging) (i n : Nat) : (g.absorb i n).waiting = g.waiting := by
  simp [Staging.absorb, Staging.setSlot]

/-- One slot handed back whose page has no newer open slot: it is SEALED (R34). -/
theorem Staging.returnSlot_alone (g : Staging) (i : Nat) (h : g.Returnable [i]) (alone : ∀ n, ¬g.newerOf n i) :
    g.Returned (g.returnSlot i) [i] := by
  obtain ⟨committing, paged, -, -⟩ := h
  simp only [List.mem_singleton, forall_eq] at committing paged
  obtain ⟨page, hp⟩ := Option.ne_none_iff_exists'.mp paged
  have none_open : g.openSlot page = none := by
    cases ho : g.openSlot page with
    | none => rfl
    | some n =>
      obtain ⟨isOpen, samePage⟩ := g.openSlot_some page n ho
      exact absurd ⟨isOpen, samePage.trans hp.symm⟩ (alone n)
  have result : g.returnSlot i = g.setSlotState .sealed i := by simp [Staging.returnSlot, hp, none_open]
  have hi : i < 16 := g.lt_of_not_free i (by simp [committing])
  have slot : ∀ k, (g.returnSlot i).slot k = if i = k then { g.slot i with state := .sealed } else g.slot k := by
    intro k
    rw [result, slot_setSlotState]
    by_cases hk : i = k
    · subst hk; simp [hi]
    · simp [hk]
  constructor
  any_goals simp only [List.mem_singleton, forall_eq]
  case state => simp [slot]
  case page => simp [slot]
  case rank => intro k hk; rw [slot]; split <;> simp_all
  case newer => exact fun n hn => absurd hn (alone n)
  case older => intro o _ _; rw [slot, if_pos rfl]; rfl
  case absorbed => exact fun n hn => absurd hn (alone n)
  case others => intro k hk _; exact ⟨(g.slot k).rank, by rw [slot, if_neg (Ne.symm hk)]⟩
  case sublist => rw [result]; exact List.Sublist.refl _
  case queue => rw [result]; exact fun k hk _ => hk
  case waiting => rw [result]; rfl

/-- One slot handed back whose page has a newer open slot: that one is absorbed (R35). -/
theorem Staging.returnSlot_absorbing (g : Staging) (i n : Nat) (h : g.Returnable [i]) (hn : g.newerOf n i) :
    g.Returned (g.returnSlot i) [i] := by
  obtain ⟨committing, paged, -, once⟩ := h
  simp only [List.mem_singleton, forall_eq] at committing paged once
  obtain ⟨page, hp⟩ := Option.ne_none_iff_exists'.mp paged
  have only : ∀ k, g.newerOf k i ↔ k = n := fun k => ⟨fun hk => once k n hk hn, fun hk => hk ▸ hn⟩
  have found : g.openSlot page = some n := by
    cases ho : g.openSlot page with
    | none => exact absurd (hn.2.trans hp) (g.openSlot_none page ho n hn.1)
    | some k => rw [(only k).mp (by obtain ⟨h1, h2⟩ := g.openSlot_some page k ho; exact ⟨h1, h2.trans hp.symm⟩)]
  have result : g.returnSlot i = (g.absorb i n).setSlotState .sealed i := by simp [Staging.returnSlot, hp, found]
  have hi : i < 16 := g.lt_of_not_free i (by simp [committing])
  have hni : n ≠ i := g.ne_of_newerOf n i i hn committing
  obtain ⟨f, absorbed⟩ := g.slot_absorb i n hi (g.lt_of_isOpen n hn.1)
  have queue : (g.returnSlot i).queue = g.queue.filter (· != n) := by rw [result]; exact g.absorb_queue i n
  obtain ⟨sameState, samePage, sameRank⟩ := (g.slot i).putAll_frame (g.slot n).presentBytes
  have slotReturned : (g.returnSlot i).slot i =
      { (g.slot i).absorb (g.slot n) with state := .sealed, rank := (g.slot i).rank.map f } := by
    rw [result, slot_setSlotState, if_pos ⟨rfl, hi⟩, absorbed, if_neg hni, if_pos rfl, Slot.absorb, sameRank]
  have slotAbsorbed : (g.returnSlot i).slot n = (g.slot n).freed := by
    rw [result, slot_setSlotState, if_neg (fun h => hni h.1.symm), absorbed, if_pos rfl]
    rfl
  have slotOther : ∀ k, k ≠ i → k ≠ n → (g.returnSlot i).slot k = { g.slot k with rank := (g.slot k).rank.map f } := by
    intro k hki hkn
    rw [result, slot_setSlotState, if_neg (fun h => hki h.1.symm), absorbed, if_neg (Ne.symm hkn), if_neg (Ne.symm hki)]
  constructor
  any_goals simp only [List.mem_singleton, forall_eq, only]
  case state => rw [slotReturned]
  case page => rw [slotReturned]; exact samePage
  case rank =>
    intro k hk
    by_cases hki : k = i
    · subst hki; rw [slotReturned]; simp [hk]
    by_cases hkn : k = n
    · subst hkn; rw [slotAbsorbed]; rfl
    · rw [slotOther k hki hkn]; simp [hk]
  case newer =>
    intro o ho v hv
    rw [slotReturned]
    exact ((g.slot i).byte_absorb (g.slot n) o ho).1 v hv
  case older =>
    intro o ho hv
    rw [slotReturned]
    exact ((g.slot i).byte_absorb (g.slot n) o ho).2 hv
  case absorbed => rw [slotAbsorbed, queue]; exact ⟨rfl, by simp⟩
  case others => intro k hki hkn; exact ⟨_, slotOther k hki hkn⟩
  case sublist => rw [queue]; exact List.filter_sublist
  case queue => intro k hk hkn; rw [queue]; simpa [hkn] using hk
  case waiting => rw [result]; exact g.absorb_waiting i n

theorem Staging.returnSlot_returned (g : Staging) (i : Nat) (h : g.Returnable [i]) : g.Returned (g.returnSlot i) [i] := by
  by_cases hn : ∃ n, g.newerOf n i
  · obtain ⟨n, hn⟩ := hn
    exact g.returnSlot_absorbing i n h hn
  · exact g.returnSlot_alone i h (not_exists.mp hn)

theorem Staging.Returned.refl (g : Staging) : g.Returned g [] where
  state := nofun
  page := nofun
  rank _ h := h
  newer := nofun
  older := nofun
  absorbed := nofun
  others k _ _ := ⟨(g.slot k).rank, rfl⟩
  sublist := List.Sublist.refl _
  queue _ h _ := h
  waiting := rfl

section
variable {g g' h : Staging} {i : Nat} {l : List Nat} (ok : g.Returnable (i :: l)) (first : g.Returned g' [i])
include ok first

/-- A slot still to be handed back stands as it did, but for its rank. -/
theorem Staging.Returnable.slot_later (k : Nat) (hk : k ∈ l) : ∃ r, g'.slot k = { g.slot k with rank := r } := by
  have apart := (List.pairwise_cons.mp ok.apart).1 k hk
  refine first.others k (fun hki => apart (by rw [List.mem_singleton.mp hki])) fun j _ hn => ?_
  exact g.ne_of_newerOf k j k hn (ok.committing k (List.mem_cons_of_mem _ hk)) rfl

/-- The newer slots of the pages still to be handed back are what they were, and stand as they did but for their ranks. -/
theorem Staging.Returnable.newerOf_later (k : Nat) (hk : k ∈ l) (n : Nat) :
    (g'.newerOf n k ↔ g.newerOf n k) ∧ (g.newerOf n k → ∃ r, g'.slot n = { g.slot n with rank := r }) := by
  have apart := (List.pairwise_cons.mp ok.apart).1 k hk
  obtain ⟨rk, hrk⟩ := ok.slot_later first k hk
  have samePage : (g'.slot k).page = (g.slot k).page := by rw [hrk]
  have self : i ∈ [i] := List.mem_singleton_self i
  by_cases hni : n = i
  · subst hni
    have committing := ok.committing n List.mem_cons_self
    have before : ¬g.newerOf n k := fun hn => g.ne_of_newerOf n k n hn committing rfl
    have after : ¬g'.newerOf n k := fun hn => apart (by rw [← first.page n self, hn.2, samePage])
    exact ⟨iff_of_false after before, fun hn => absurd hn before⟩
  by_cases hn : g.newerOf n i
  · have before : ¬g.newerOf n k := fun hk => apart (hn.2.symm.trans hk.2)
    have after : ¬g'.newerOf n k := fun hk => by
      have := hk.1
      simp [Slot.isOpen, (first.absorbed i self n hn).1] at this
    exact ⟨iff_of_false after before, fun hn => absurd hn before⟩
  · obtain ⟨r, hr⟩ := first.others n (by simpa using hni) fun j hj => by rwa [List.mem_singleton.mp hj]
    refine ⟨?_, fun _ => ⟨r, hr⟩⟩
    simp [Staging.newerOf, Slot.isOpen, hr, hrk]

/-- The slots still to be handed back can be. -/
theorem Staging.Returnable.later : g'.Returnable l where
  committing k hk := by
    obtain ⟨r, hr⟩ := ok.slot_later first k hk
    rw [hr]; exact ok.committing k (List.mem_cons_of_mem _ hk)
  paged k hk := by
    obtain ⟨r, hr⟩ := ok.slot_later first k hk
    rw [hr]; exact ok.paged k (List.mem_cons_of_mem _ hk)
  apart := by
    refine (List.pairwise_cons.mp ok.apart).2.imp_of_mem fun {a b} ha hb hab => ?_
    obtain ⟨ra, hra⟩ := ok.slot_later first a ha
    obtain ⟨rb, hrb⟩ := ok.slot_later first b hb
    rw [hra, hrb]; exact hab
  once k hk a b ha hb :=
    ok.once k (List.mem_cons_of_mem _ hk) a b ((ok.newerOf_later first k hk a).1.mp ha) ((ok.newerOf_later first k hk b).1.mp hb)

/-- A slot handed back after another. -/
theorem Staging.Returned.cons (rest : g'.Returned h l) : g.Returned h (i :: l) := by
  have self : i ∈ [i] := List.mem_singleton_self i
  have apart := (List.pairwise_cons.mp ok.apart).1
  have samePage : ∀ k ∈ l, (g'.slot k).page = (g.slot k).page := fun k hk => by
    obtain ⟨r, hr⟩ := ok.slot_later first k hk
    rw [hr]
  have later : i ∉ l := fun hi => apart i hi rfl
  have unrelated : ∀ k ∈ l, ¬g'.newerOf i k := fun k hk hn =>
    g.ne_of_newerOf i k i ((ok.newerOf_later first k hk i).1.mp hn) (ok.committing i List.mem_cons_self) rfl
  obtain ⟨ri, hri⟩ := rest.others i later unrelated
  have absorbedBefore : ∀ n, g.newerOf n i → n ∉ l ∧ ∀ k ∈ l, ¬g'.newerOf n k := by
    refine fun n hn => ⟨fun hnl => ?_, fun k hk hnk => ?_⟩
    · exact g.ne_of_newerOf n i n hn (ok.committing n (List.mem_cons_of_mem _ hnl)) rfl
    · exact apart k hk (hn.2.symm.trans ((ok.newerOf_later first k hk n).1.mp hnk).2)
  constructor
  case state =>
    rintro k (_ | ⟨_, hk⟩)
    · rw [hri]; exact first.state i self
    · exact rest.state k hk
  case page =>
    rintro k (_ | ⟨_, hk⟩)
    · rw [hri]; exact first.page i self
    · exact (rest.page k hk).trans (samePage k hk)
  case rank => exact fun k hk => rest.rank k (first.rank k hk)
  case newer =>
    rintro k (_ | ⟨_, hk⟩) n hn o ho v hv
    · rw [hri]; exact first.newer i self n hn o ho v hv
    · obtain ⟨same, slot⟩ := ok.newerOf_later first k hk n
      obtain ⟨r, hr⟩ := slot hn
      exact rest.newer k hk n (same.mpr hn) o ho v (by rw [hr]; exact hv)
  case older =>
    rintro k (_ | ⟨_, hk⟩) o ho hv
    · rw [hri]; exact first.older i self o ho hv
    · obtain ⟨r, hr⟩ := ok.slot_later first k hk
      refine (rest.older k hk o ho fun n hn => ?_).trans (by rw [hr]; rfl)
      obtain ⟨same, slot⟩ := ok.newerOf_later first k hk n
      obtain ⟨rn, hrn⟩ := slot (same.mp hn)
      rw [hrn]
      exact hv n (same.mp hn)
  case absorbed =>
    rintro k (_ | ⟨_, hk⟩) n hn
    · obtain ⟨free, dequeued⟩ := first.absorbed i self n hn
      obtain ⟨hnl, hnk⟩ := absorbedBefore n hn
      obtain ⟨r, hr⟩ := rest.others n hnl hnk
      exact ⟨by rw [hr]; exact free, fun hq => dequeued (rest.sublist.subset hq)⟩
    · exact rest.absorbed k hk n ((ok.newerOf_later first k hk n).1.mpr hn)
  case others =>
    intro k hk hn
    obtain ⟨hki, hkl⟩ : k ≠ i ∧ k ∉ l := by simpa using hk
    obtain ⟨r, hr⟩ := first.others k (by simpa using hki) fun j hj => by
      rw [List.mem_singleton.mp hj]; exact hn i List.mem_cons_self
    obtain ⟨r', hr'⟩ := rest.others k hkl fun j hj hnj =>
      hn j (List.mem_cons_of_mem _ hj) ((ok.newerOf_later first j hj k).1.mp hnj)
    exact ⟨r', by rw [hr', hr]⟩
  case sublist => exact rest.sublist.trans first.sublist
  case queue =>
    intro k hk hn
    refine rest.queue k (first.queue k hk fun j hj => ?_) fun j hj hnj =>
      hn j (List.mem_cons_of_mem _ hj) ((ok.newerOf_later first j hj k).1.mp hnj)
    rw [List.mem_singleton.mp hj]
    exact hn i List.mem_cons_self
  case waiting => exact rest.waiting.trans first.waiting

end

/-- All that handing back a list of slots does (R34, R35). -/
theorem Staging.foldl_returnSlot_returned (l : List Nat) (g : Staging) (ok : g.Returnable l) :
    g.Returned (l.foldl Staging.returnSlot g) l := by
  induction l generalizing g with
  | nil => exact Staging.Returned.refl g
  | cons i l ih =>
    have single : g.Returnable [i] :=
      { committing := fun k hk => ok.committing k (by simp_all)
        paged := fun k hk => ok.paged k (by simp_all)
        apart := List.pairwise_singleton _ i
        once := fun k hk => ok.once k (by simp_all) }
    have first := g.returnSlot_returned i single
    exact Staging.Returned.cons ok first (ih (g.returnSlot i) (ok.later first))

/-! ## The staging law under the changes of a job -/

/-- The staging law speaks of the slots, the queue and the job alone. -/
theorem State.StagingLaw.congr {s t : State} (law : s.StagingLaw) (slots : t.staging.slots = s.staging.slots)
    (queue : t.staging.queue = s.staging.queue) (job : t.engine.job = s.engine.job) : t.StagingLaw := by
  have slot : ∀ i, t.staging.slot i = s.staging.slot i := fun i => by rw [Staging.slot, Staging.slot, slots]
  have count : t.staging.count .filling = s.staging.count .filling := by simp only [Staging.count, slot]
  obtain ⟨h1, h2, h3, h4, h5, h6, h7, h8, h9, h10, h11, h12⟩ := law
  constructor <;> simp only [slot, count, queue, job] <;> assumption

/-- The slots of the job are COMMITTING, and so named by numbers up to 15 (R44). -/
theorem State.StagingLaw.committing {s : State} (law : s.StagingLaw) {j : Job} (hj : s.engine.job = some j) {i : Nat}
    (hi : i ∈ j.slots) : i < 16 ∧ (s.staging.slot i).state = .committing :=
  (law.job i).mp ⟨j, hj, hi⟩

/-- A COMMITTING slot is a slot of the job (R44). -/
theorem State.StagingLaw.mem_slots {s : State} (law : s.StagingLaw) {j : Job} (hj : s.engine.job = some j) {i : Nat}
    (hi : (s.staging.slot i).state = .committing) : i ∈ j.slots := by
  obtain ⟨k, hk, hik⟩ := (law.job i).mpr ⟨s.staging.lt_of_not_free i (by simp [hi]), hi⟩
  rw [hj] at hk
  rwa [Option.some.inj hk]

/-- With no job there is no COMMITTING slot (R44). -/
theorem State.StagingLaw.no_committing {s : State} (law : s.StagingLaw) (hj : s.engine.job = none) (i : Nat) :
    (s.staging.slot i).state ≠ .committing := by
  intro hi
  obtain ⟨j, h, -⟩ := (law.job i).mpr ⟨s.staging.lt_of_not_free i (by simp [hi]), hi⟩
  simp [hj] at h

/-- A slot that is not FREE has a page (R18). -/
theorem State.StagingLaw.paged {s : State} (law : s.StagingLaw) {i : Nat} (hi : (s.staging.slot i).state ≠ .free) :
    (s.staging.slot i).page ≠ none :=
  fun h => hi ((law.page i (s.staging.lt_of_not_free i hi)).mp h)

/-- The job's slots can be handed back. -/
theorem State.StagingLaw.returnable {s : State} (law : s.StagingLaw) {j : Job} (hj : s.engine.job = some j) :
    s.staging.Returnable j.slots where
  committing i hi := (law.committing hj hi).2
  paged i hi := law.paged (by simp [(law.committing hj hi).2])
  apart := (law.jobNodup j hj).imp_of_mem fun {a b} ha hb hne hp => by
    obtain ⟨la, ca⟩ := law.committing hj ha
    obtain ⟨lb, cb⟩ := law.committing hj hb
    exact hne (law.committingOnce a la b lb ca cb hp)
  once i hi a b ha hb :=
    law.openOnce a (s.staging.lt_of_isOpen a ha.1) b (s.staging.lt_of_isOpen b hb.1) ha.1 hb.1 (ha.2.trans hb.2.symm)

/-- A job without slots, given up or replaced by one without slots, leaves the law as it is. -/
theorem State.StagingLaw.replaceJob {s t : State} (law : s.StagingLaw) (staging : t.staging = s.staging)
    (before : ∀ j, s.engine.job = some j → j.slots = []) (after : ∀ j, t.engine.job = some j → j.slots = []) : t.StagingLaw := by
  obtain ⟨h1, h2, h3, h4, h5, h6, h7, h8, h9, h10, h11, h12⟩ := law
  constructor
  case job =>
    intro i
    rw [staging, ← h8 i]
    constructor
    · rintro ⟨j, hj, hi⟩; simp [after j hj] at hi
    · rintro ⟨j, hj, hi⟩; simp [before j hj] at hi
  case jobNodup => intro j hj; simp [after j hj]
  case source => intro j hj _; exact after j hj
  all_goals simp only [staging]; assumption

/-- The job's slots FREE, and the job given up or left without slots (R33). -/
theorem State.StagingLaw.freeSlots {s t : State} (law : s.StagingLaw) {j : Job} (hj : s.engine.job = some j)
    (staging : t.staging = s.staging.freeSlots j.slots) (after : ∀ k, t.engine.job = some k → k.slots = []) : t.StagingLaw := by
  have freed : ∀ i, i ∈ j.slots → t.staging.slot i = (s.staging.slot i).freed := fun i hi => by
    rw [staging, Staging.slot_freeSlots, if_pos ⟨hi, (law.committing hj hi).1⟩]
  have kept : ∀ i, i ∉ j.slots → t.staging.slot i = s.staging.slot i := fun i hi => by
    rw [staging, Staging.slot_freeSlots, if_neg (fun h => hi h.1)]
  have queue : t.staging.queue = s.staging.queue := by rw [staging, Staging.freeSlots_queue]
  have alive : ∀ i, (t.staging.slot i).state ≠ .free → i ∉ j.slots := fun i h hi => h (by rw [freed i hi]; rfl)
  have isOpen : ∀ i, (t.staging.slot i).isOpen = true → i ∉ j.slots := fun i h =>
    alive i fun hf => by simp [Slot.isOpen, hf] at h
  have ranked : ∀ i, (t.staging.slot i).rank.isSome = true → i ∉ j.slots := fun i h hi => by
    rw [freed i hi] at h; simp [Slot.freed] at h
  have committing : ∀ i, (t.staging.slot i).state ≠ .committing := fun i h => by
    have hi := alive i (by simp [h])
    rw [kept i hi] at h
    exact hi (law.mem_slots hj h)
  have count : t.staging.count .filling = s.staging.count .filling := by
    refine List.countP_congr fun i _ => ?_
    by_cases hi : i ∈ j.slots
    · simp [freed i hi, Slot.freed, (law.committing hj hi).2]
    · rw [kept i hi]
  constructor
  case page =>
    intro i hi
    by_cases h : i ∈ j.slots
    · simp [freed i h, Slot.freed]
    · rw [kept i h]; exact law.page i hi
  case rank =>
    intro i hi
    by_cases h : i ∈ j.slots
    · simp [freed i h, Slot.freed]
    · rw [kept i h]; exact law.rank i hi
  case written =>
    intro i hi hf
    by_cases h : i ∈ j.slots
    · rw [freed i h]; rfl
    · rw [kept i h] at hf ⊢; exact law.written i hi hf
  case queue =>
    intro i
    rw [queue, law.queue i]
    by_cases h : i ∈ j.slots
    · simp [freed i h, Slot.freed, (law.committing hj h).2]
    · rw [kept i h]
  case queueNodup => rw [queue]; exact law.queueNodup
  case rankBound =>
    intro i hi r hr
    have h := ranked i (by simp [hr])
    rw [kept i h] at hr
    rw [count]
    exact law.rankBound i hi r hr
  case rankOnce =>
    intro i hi k hk hr he
    have hki := ranked k (he ▸ hr)
    have hii := ranked i hr
    rw [kept i hii] at hr he
    rw [kept k hki] at he
    exact law.rankOnce i hi k hk hr he
  case job =>
    intro i
    exact ⟨fun ⟨k, hk, hi⟩ => by simp [after k hk] at hi, fun h => absurd h.2 (committing i)⟩
  case jobNodup => intro k hk; simp [after k hk]
  case openOnce =>
    intro i hi k hk h1 h2 h3
    have g1 := isOpen i h1
    have g2 := isOpen k h2
    rw [kept i g1] at h1 h3
    rw [kept k g2] at h2 h3
    exact law.openOnce i hi k hk h1 h2 h3
  case committingOnce => exact fun i _ k _ h => absurd h (committing i)
  case source => exact fun k hk _ => after k hk

/-! ## Abandonment -/

/-- The record of sector p replaced twice is replaced once. -/
theorem Tables.setRecord_setRecord (t : Tables) (p : Nat) (r q : SectorRecord) :
    (t.setRecord p r).setRecord p q = t.setRecord p q := by
  simp [Tables.setRecord, Vector.setIfInBounds_setIfInBounds]

/-- A record number that names no sector is replaced without effect. -/
theorem Tables.setRecord_of_ge (t : Tables) (p : Nat) (r : SectorRecord) (h : 512 ≤ p) : t.setRecord p r = t := by
  simp [Tables.setRecord, Vector.setIfInBounds_eq_of_size_le, Config.physicalSectors, h]

/-- A sector given a state and an owner, and its retire pending flag set or cleared, in one change of its record. -/
theorem Tables.setPending_setState (t : Tables) (p : Nat) (st : SectorState) (owner : Option Nat) (b : Bool) :
    (t.setState p st owner).setPending p b =
      t.setRecord p { t.record p with state := some st, owner := owner, retirePending := b } := by
  by_cases hp : p < 512
  · rw [Tables.setState, Tables.setPending, Tables.setRecord_setRecord, Tables.record_setRecord, if_pos ⟨rfl, hp⟩]
  · have hp := Nat.not_lt.mp hp
    simp [Tables.setState, Tables.setPending, Tables.setRecord_of_ge _ p _ hp]

/-- The job's target returned (R16). -/
theorem State.returnTarget_eq (s : State) (p : Nat) :
    s.returnTarget p =
      { s with
        tables := s.tables.setRecord p
          { s.tables.record p with state := some .spareDirty, owner := none, retirePending := false }
        pool := { s.pool with spares := s.pool.spares ++ [p] } } := by
  simp [State.returnTarget, Tables.setPending_setState, State.withTables, State.withPool]

/-- The abandonment of job j, field by field (R61, R34, R16). -/
theorem State.abandonJob_eq (s : State) (j : Job) (hj : s.engine.job = some j) :
    s.abandonJob =
      { s with
        engine := { s.engine with job := none }
        staging := s.staging.returnSlots j.slots
        timer :=
          if s.staging.count .filling ≠ 0 ∧ (s.staging.returnSlots j.slots).count .filling = 0 then .stopped else s.timer
        tables :=
          match j.target with
          | some p =>
            s.tables.setRecord p { s.tables.record p with state := some .spareDirty, owner := none, retirePending := false }
          | none => s.tables
        pool :=
          match j.target with
          | some p => { s.pool with spares := s.pool.spares ++ [p] }
          | none => s.pool } := by
  cases ht : j.target <;>
    simp [State.abandonJob, hj, ht, State.returnTarget_eq, State.withStagingReport_eq, State.withJob, State.withEngine]

/-- All that the abandonment of a job does (R61, R34, R35, R16). -/
theorem State.abandonJob_jobAbandoned (s : State) (j : Job) (law : s.StagingLaw) (hj : s.engine.job = some j) :
    s.JobAbandoned s.abandonJob j := by
  have slots := s.staging.foldl_returnSlot_returned j.slots (law.returnable hj)
  have slot : ∀ k, (s.staging.returnSlots j.slots).slot k = (j.slots.foldl Staging.returnSlot s.staging).slot k := fun _ => rfl
  have queue : (s.staging.returnSlots j.slots).queue = j.slots ++ (j.slots.foldl Staging.returnSlot s.staging).queue := rfl
  rw [s.abandonJob_eq j hj]
  constructor
  case frame => rfl
  case target => intro p hp; simp [hp]
  case noTarget => intro hn; simp [hn]
  case returned =>
    intro i hi page hp
    obtain ⟨lt, committing⟩ := law.committing hj hi
    have noRank : (s.staging.slot i).rank = none := by
      have := law.rank i lt
      rw [committing] at this
      simpa using this
    simp only [slot]
    refine ⟨slots.state i hi, (slots.page i hi).trans hp, slots.rank i noRank, fun o ho => ?_⟩
    have older : s.staging.committingSlot page = some i := by
      cases h : s.staging.committingSlot page with
      | none => exact absurd h (s.staging.committingSlot_ne_none page i committing hp)
      | some k =>
        obtain ⟨hk, hkp⟩ := s.staging.committingSlot_some page k h
        rw [law.committingOnce k (s.staging.lt_of_not_free k (by simp [hk])) i lt hk committing (hkp.trans hp.symm)]
    cases ho' : s.staging.openSlot page with
    | none =>
      rw [slots.older i hi o ho fun n hn => absurd (hn.2.trans hp) (s.staging.openSlot_none page ho' n hn.1)]
      simp [Staging.layeredByte, ho', older]
    | some n =>
      obtain ⟨isOpen, samePage⟩ := s.staging.openSlot_some page n ho'
      have hn : s.staging.newerOf n i := ⟨isOpen, samePage.trans hp.symm⟩
      cases hv : (s.staging.slot n).byte o with
      | some v => simp [slots.newer i hi n hn o ho v hv, Staging.layeredByte, ho', hv]
      | none =>
        rw [slots.older i hi o ho fun m hm => by rw [(law.returnable hj).once i hi m n hm hn, hv]]
        simp [Staging.layeredByte, ho', hv, older]
  case absorbed =>
    rintro k hk isOpen ⟨i, hi, hp⟩
    obtain ⟨free, dequeued⟩ := slots.absorbed i hi k ⟨isOpen, hp.symm⟩
    refine ⟨free, ?_⟩
    simp only [queue, List.mem_append, not_or]
    exact ⟨fun hkj => by simp [Slot.isOpen, (law.committing hj hkj).2] at isOpen, dequeued⟩
  case others =>
    intro k hk hkj hp
    obtain ⟨r, hr⟩ := slots.others k hkj fun i hi hn => hp i hi hn.2.symm
    simp [slot, hr]
  case queue =>
    exact ⟨_, queue, slots.sublist, fun k hk hp => slots.queue k hk fun i hi hn => hp i hi hn.2.symm⟩
  case timer => rfl
  case waiting => exact slots.waiting

/-! ## The target request -/

/-- The search of the spare list in a state finds the first spare of the list in it whose retirement is not asked for (R90). -/
theorem State.findSpare_eq_some (s : State) (st : SectorState) (p : Nat) :
    (s.pool.spares.find? fun q => (s.tables.record q).state == some st && s.tables.eligible q) = some p ↔ s.firstSpare st p := by
  simp only [State.firstSpare, Tables.eligible, List.find?_eq_some_iff_append]
  constructor
  · rintro ⟨found, before, after, split, others⟩
    simp only [Bool.and_eq_true, beq_iff_eq, Bool.not_eq_true'] at found
    exact ⟨before, after, split, found.1, found.2, fun q hq hs => by simpa [hs] using others q hq⟩
  · rintro ⟨before, after, split, hs, hp, others⟩
    refine ⟨by simp [hs, hp], before, after, split, fun q hq => ?_⟩
    by_cases h : (s.tables.record q).state = some st <;> simp [h, others q hq]

/-- The search finds none when the list has none (R90). -/
theorem State.findSpare_eq_none (s : State) (st : SectorState) :
    (s.pool.spares.find? fun q => (s.tables.record q).state == some st && s.tables.eligible q) = none ↔ s.noSpare st := by
  simp [State.noSpare, Tables.eligible]

/-- All that a target request can do (R90, R54, R12, R55). -/
theorem State.requestTarget_targetAnswered (s : State) (j : Job) (law : s.StagingLaw) (hj : s.engine.job = some j) :
    s.TargetAnswered s.requestTarget j where
  clean p latch found := by
    have found : s.firstClean = some p := (s.findSpare_eq_some _ p).mpr found
    simp [State.requestTarget, hj, latch, found, State.withTables, State.withPool, State.readSource, State.withJob,
      State.withEngine, State.requestCommit, State.withRequests, State.withLink, Tables.setState, physAddr]
  dirty p latch noClean found := by
    have noClean : s.firstClean = none := (s.findSpare_eq_none _).mpr noClean
    have found : s.firstDirty = some p := (s.findSpare_eq_some _ p).mpr found
    simp [State.requestTarget, hj, latch, noClean, found, State.withJob, State.withEngine, State.requestCommit,
      State.withRequests, State.withLink]
  waits latch noClean noDirty := by
    have noClean : s.firstClean = none := (s.findSpare_eq_none _).mpr noClean
    have noDirty : s.firstDirty = none := (s.findSpare_eq_none _).mpr noDirty
    simp [State.requestTarget, hj, latch, noClean, noDirty, State.withJob, State.withEngine]
  refused latch := by
    have abandons : s.requestTarget = s.abandonJob := by simp [State.requestTarget, hj, latch]
    rw [abandons]
    exact s.abandonJob_jobAbandoned j law hj

/-! ## The pages of a job -/

theorem State.holdsPage_iff (s : State) (j : Job) (k i : Nat) :
    s.holdsPage j k i ↔ i ∈ j.slots ∧ (s.staging.slot i).page.map pageInSector = some k := Iff.rfl

/-- The job has a slot for page k of its sector (R44). -/
theorem State.jobSlot_isSome (s : State) (j : Job) (k : Nat) : (s.jobSlot j k).isSome = true ↔ ∃ i, s.holdsPage j k i := by
  simp only [State.jobSlot, List.find?_isSome, State.holdsPage_iff, beq_iff_eq]

/-- The next job page is the first page of the job from page k on (R48, R50). -/
theorem State.nextJobPage_eq_some (s : State) (j : Job) (k p : Nat) : s.nextJobPage j k = some p ↔ s.firstPage j k p := by
  simp only [State.nextJobPage, List.find?_range_eq_some, State.firstPage, ← State.jobSlot_isSome, List.mem_range]
  constructor
  · rintro ⟨found, lt, before⟩
    simp only [Bool.and_eq_true, decide_eq_true_eq] at found
    refine ⟨found.1, lt, found.2, fun q hq hqp i hi => ?_⟩
    have := before q hqp
    have := (s.jobSlot_isSome j q).mpr ⟨i, hi⟩
    simp_all
  · rintro ⟨le, lt, found, before⟩
    refine ⟨by simp [le, found], lt, fun q hq => ?_⟩
    by_cases h : k ≤ q
    · have := mt (s.jobSlot_isSome j q).mp (not_exists.mpr (before q h hq))
      simp_all
    · simp [h]

/-! ## The take -/

/-- A list sorted by a key is in the key's order. -/
theorem pairwise_insertionSort_key (key : Nat → Nat) (l : List Nat) :
    (l.insertionSort fun i k => key i ≤ key k).Pairwise fun i k => key i ≤ key k := by
  have : Std.Total fun i k => key i ≤ key k := ⟨fun _ _ => le_total _ _⟩
  have : IsTrans Nat fun i k => key i ≤ key k := ⟨fun _ _ _ => le_trans⟩
  exact List.pairwise_insertionSort _ l

/-- A take changes the slots and the queue alone (R31). -/
theorem Staging.take_eq (g : Staging) (l : List Nat) :
    g.take l = { g with slots := (g.take l).slots, queue := g.queue.filter fun k => k ∉ l } := by
  rw [Staging.mk.injEq]
  exact ⟨rfl, by simp, by simp⟩

/-- The slots of a take: the queued slots of the sector of the queue's head (R31). -/
theorem Staging.mem_takeList (g : Staging) (i page : Nat) (rest : List Nat) (hq : g.queue = i :: rest)
    (hp : (g.slot i).page = some page) (k : Nat) :
    k ∈ g.takeList ↔ k ∈ g.queue ∧ ∃ q, (g.slot k).page = some q ∧ q / 16 = page / 16 := by
  rw [Staging.takeList, hq]
  simp only [List.mem_insertionSort, List.mem_filter, hp, Option.map_some, beq_iff_eq, Option.map_eq_some_iff, sectorOfPage]

/-- The slots of a take stand in page order, no two of one page (R31). -/
theorem State.StagingLaw.takeList_sorted {s : State} (law : s.StagingLaw) :
    s.staging.takeList.Pairwise fun a b => (s.staging.slot a).page.getD 0 < (s.staging.slot b).page.getD 0 := by
  cases hq : s.staging.queue with
  | nil => simp [Staging.takeList, hq]
  | cons i rest =>
    have queued : ∀ k ∈ s.staging.takeList, k < 16 ∧ (s.staging.slot k).state = .sealed := by
      intro k hk
      rw [← law.queue k, hq]
      rw [Staging.takeList, hq] at hk
      exact List.mem_of_mem_filter (List.mem_insertionSort _ |>.mp hk)
    have distinct : s.staging.takeList.Nodup := by
      rw [Staging.takeList, hq]
      exact (List.perm_insertionSort _ _).nodup_iff.mpr ((hq ▸ law.queueNodup).filter _)
    have sorted : s.staging.takeList.Pairwise fun a b => (s.staging.slot a).page.getD 0 ≤ (s.staging.slot b).page.getD 0 := by
      rw [Staging.takeList, hq]
      exact pairwise_insertionSort_key (fun k => (s.staging.slot k).page.getD 0) _
    refine (sorted.and distinct).imp_of_mem fun {a b} ha hb ⟨le, ne⟩ => lt_of_le_of_ne le fun same => ne ?_
    obtain ⟨la, sa⟩ := queued a ha
    obtain ⟨lb, sb⟩ := queued b hb
    obtain ⟨pa, hpa⟩ := Option.ne_none_iff_exists'.mp (law.paged (i := a) (by simp [sa]))
    obtain ⟨pb, hpb⟩ := Option.ne_none_iff_exists'.mp (law.paged (i := b) (by simp [sb]))
    refine law.openOnce a la b lb (by simp [Slot.isOpen, sa]) (by simp [Slot.isOpen, sb]) ?_
    rw [hpa, hpb] at same ⊢
    exact congrArg some same

/-- Queued slots taken into a job, of which there was none (R31, R44). -/
theorem State.StagingLaw.take {s t : State} (law : s.StagingLaw) (idle : s.engine.job = none) {j : Job}
    (queued : ∀ i ∈ j.slots, i ∈ s.staging.queue) (once : j.slots.Nodup) (staging : t.staging = s.staging.take j.slots)
    (job : t.engine.job = some j) (awaited : j.awaited = none) : t.StagingLaw := by
  have wasSealed : ∀ i, i ∈ j.slots → i < 16 ∧ (s.staging.slot i).state = .sealed := fun i hi => (law.queue i).mp (queued i hi)
  have taken : ∀ i, i ∈ j.slots → t.staging.slot i = { s.staging.slot i with state := .committing } := fun i hi => by
    rw [staging, Staging.slot_take, if_pos ⟨hi, (wasSealed i hi).1⟩]
  have kept : ∀ i, i ∉ j.slots → t.staging.slot i = s.staging.slot i := fun i hi => by
    rw [staging, Staging.slot_take, if_neg fun h => hi h.1]
  have committing : ∀ i, (t.staging.slot i).state = .committing ↔ i ∈ j.slots := fun i => by
    by_cases h : i ∈ j.slots
    · simp [taken i h, h]
    · simpa [kept i h, h] using law.no_committing idle i
  have isOpen : ∀ i, (t.staging.slot i).isOpen = true → i ∉ j.slots := fun i h hi => by
    simp [Slot.isOpen, taken i hi] at h
  have page : ∀ i, (t.staging.slot i).page = (s.staging.slot i).page := fun i => by
    by_cases h : i ∈ j.slots
    · rw [taken i h]
    · rw [kept i h]
  have rank : ∀ i, (t.staging.slot i).rank = (s.staging.slot i).rank := fun i => by
    by_cases h : i ∈ j.slots
    · rw [taken i h]
    · rw [kept i h]
  have count : t.staging.count .filling = s.staging.count .filling := by
    refine List.countP_congr fun i _ => ?_
    by_cases h : i ∈ j.slots
    · simp [taken i h, (wasSealed i h).2]
    · rw [kept i h]
  constructor
  case page =>
    intro i hi
    rw [page]
    by_cases h : i ∈ j.slots
    · rw [law.page i hi]; simp [taken i h, (wasSealed i h).2]
    · rw [kept i h]; exact law.page i hi
  case rank =>
    intro i hi
    rw [rank]
    by_cases h : i ∈ j.slots
    · rw [law.rank i hi]; simp [taken i h, (wasSealed i h).2]
    · rw [kept i h]; exact law.rank i hi
  case written =>
    intro i hi hf
    by_cases h : i ∈ j.slots
    · simp [taken i h] at hf
    · rw [kept i h] at hf ⊢; exact law.written i hi hf
  case queue =>
    intro i
    rw [staging, Staging.take_queue, List.mem_filter, law.queue i, ← staging]
    by_cases h : i ∈ j.slots
    · simp [taken i h, h]
    · simp [kept i h, h]
  case queueNodup => rw [staging, Staging.take_queue]; exact law.queueNodup.filter _
  case rankBound => intro i hi r hr; rw [count]; exact law.rankBound i hi r (rank i ▸ hr)
  case rankOnce => intro i hi k hk; rw [rank, rank]; exact law.rankOnce i hi k hk
  case job =>
    intro i
    rw [committing]
    refine ⟨fun ⟨k, hk, hi⟩ => ?_, fun hi => ⟨j, job, hi.2⟩⟩
    obtain rfl := Option.some.inj (job.symm.trans hk)
    exact ⟨(wasSealed i hi).1, hi⟩
  case jobNodup => intro k hk; obtain rfl := Option.some.inj (job.symm.trans hk); exact once
  case openOnce =>
    intro i hi k hk h1 h2 h3
    rw [page, page] at h3
    rw [kept i (isOpen i h1)] at h1
    rw [kept k (isOpen k h2)] at h2
    exact law.openOnce i hi k hk h1 h2 h3
  case committingOnce =>
    intro i hi k hk h1 h2 h3
    have open1 := (wasSealed i ((committing i).mp h1)).2
    have open2 := (wasSealed k ((committing k).mp h2)).2
    rw [page, page] at h3
    exact law.openOnce i hi k hk (by simp [Slot.isOpen, open1]) (by simp [Slot.isOpen, open2]) h3
  case source =>
    intro k hk h
    obtain rfl := Option.some.inj (job.symm.trans hk)
    simp [awaited] at h

/-- All that a take asked for by an idle engine does, a slot being queued (R31, R44, R45, R47, R48). -/
theorem State.takeJob_jobTaken (s : State) (law : s.StagingLaw) (idle : s.engine.job = none)
    (mode : s.ctl.mode = .ready ∨ s.ctl.mode = .drain) : s.JobTaken s.takeJob := by
  rintro i l page p rest hq hp rfl hl
  have due : s.takeDue = true := s.takeDue_iff.mpr ⟨idle, mode, by simp [hq]⟩
  have mem := s.staging.mem_takeList i page rest hq hp
  have sorted := law.takeList_sorted
  have first : i ∈ s.staging.takeList := (mem i).mpr ⟨by simp [hq], page, hp, rfl⟩
  obtain ⟨a, others, hslots⟩ := List.exists_cons_of_ne_nil (List.ne_nil_of_mem first)
  obtain ⟨-, q, hq', hsector⟩ := (mem a).mp (by simp [hslots])
  have job : s.newJob s.staging.takeList =
      { logical := page / 16, source := p, slots := s.staging.takeList, kind := .undecided, target := none, attempt := 1,
        cursor := 0, phase := .decide, fallback := none, awaited := none } := by
    simp [State.newJob, hslots, hq', sectorOfPage, hsector, hl]
  have taken : s.takeJob =
      (s.withStaging (s.staging.take s.staging.takeList)).beginDecide (s.newJob s.staging.takeList) := by
    simp [State.takeJob, due]
  have slots : ∀ k < 16, (s.staging.take s.staging.takeList).slot k =
      if k ∈ s.staging.takeList then { s.staging.slot k with state := .committing } else s.staging.slot k := fun k hk => by
    simp [Staging.slot_take, hk]
  cases allowed : s.values.inPlaceAllowed with
  | true =>
    have firstPage : (s.withStaging (s.staging.take s.staging.takeList)).nextJobPage (s.newJob s.staging.takeList) 0 =
        some (q % 16) := by
      have samePage : ∀ k, ((s.staging.take s.staging.takeList).slot k).page = (s.staging.slot k).page := fun k => by
        rw [Staging.slot_take]; split <;> rfl
      rw [State.nextJobPage_eq_some, job]
      refine ⟨Nat.zero_le _, Nat.mod_lt _ (by decide), ⟨a, by simp [hslots], by simp [samePage, hq']⟩, fun r _ hr k hk => ?_⟩
      obtain ⟨hk, hkp⟩ := hk
      simp only [State.withStaging_staging, samePage, Option.map_eq_some_iff] at hkp
      obtain ⟨q', hkq, rfl⟩ := hkp
      obtain ⟨-, q'', hkq', same⟩ := (mem k).mp hk
      obtain rfl := Option.some.inj (hkq.symm.trans hkq')
      have least : q ≤ q' := by
        rw [hslots] at hk
        rcases List.mem_cons.mp hk with rfl | hk
        · exact le_of_eq (Option.some.inj (hq'.symm.trans hkq))
        · have := (List.pairwise_cons.mp (hslots ▸ sorted)).1 k hk
          simp only [hq', hkq, Option.getD_some] at this
          exact this.le
      omega
    refine ⟨{ s.newJob s.staging.takeList with cursor := q % 16 }, s.staging.take s.staging.takeList, ?_⟩
    rw [job] at taken firstPage ⊢
    refine ⟨rfl, rfl, rfl, rfl, rfl, rfl, mem, sorted, s.staging.take_eq _, slots, fun _ => ?_, fun h => by simp at h⟩
    refine ⟨rfl, rfl, ⟨a, q, by simp [hslots], hq', rfl⟩, ?_⟩
    rw [taken, State.beginDecide, if_pos (by exact allowed), firstPage]
    simp [State.readSource, State.withStaging, State.withJob, State.withEngine, State.requestCommit, State.withRequests,
      State.withLink, physAddr]
  | false =>
    refine ⟨{ s.newJob s.staging.takeList with kind := .relocate, cursor := 0, phase := .allocate },
      s.staging.take s.staging.takeList, ?_⟩
    rw [job] at taken ⊢
    refine ⟨rfl, rfl, rfl, rfl, rfl, rfl, mem, sorted, s.staging.take_eq _, slots, fun h => by simp at h, fun _ => ?_⟩
    refine ⟨rfl, rfl, rfl, ?_⟩
    have asks : s.takeJob = State.requestTarget
        { s with
          engine :=
            { s.engine with
              job := some
                { logical := page / 16, source := p, slots := s.staging.takeList, kind := .relocate, target := none, attempt := 1,
                  cursor := 0, phase := .allocate, fallback := none, awaited := none } }
          staging := s.staging.take s.staging.takeList } := by
      rw [taken]
      simp [State.beginDecide, allowed, State.allocatePhase, State.withStaging, State.withJob, State.withEngine]
    rw [asks]
    refine State.requestTarget_targetAnswered _ _ (law.take idle ?_ ?_ rfl rfl rfl) rfl
    · exact fun k hk => ((mem k).mp hk).1
    · exact sorted.imp fun {a b} lt same => by simp [same] at lt

/-! ## The end of a job -/

theorem Staging.allFree_iff (g : Staging) : g.allFree = true ↔ ∀ i < 16, (g.slot i).state = .free := by
  simp [Staging.allFree, slotNumbers, Config.slotCount]

/-- All that the end of a job does, for a state that keeps the staging law once the job is gone (R60, R157, R45). -/
theorem State.endJob_jobEnded (s : State) (law : (s.withJob none).StagingLaw) : s.JobEnded s.endJob := by
  have ended : s.endJob = (s.withJob none).drainTest.takeJob := rfl
  have drain : (s.withJob none).drainTest =
      if s.ctl.mode = .drain ∧ s.staging.allFree = true then
        { s with engine := { s.engine with job := none }, ctl := { s.ctl with mode := .halted } }
      else { s with engine := { s.engine with job := none } } := by
    simp [State.drainTest_eq, State.drained, State.withJob, State.withEngine, State.withCtl]
  have stays : s.ctl.mode = .ready ∨ s.ctl.mode = .drain ∧ (∃ i < 16, (s.staging.slot i).state ≠ .free) →
      s.endJob = State.takeJob { s with engine := { s.engine with job := none } } := by
    intro h
    rw [ended, drain, if_neg]
    rintro ⟨mode, free⟩
    rcases h with h | ⟨-, i, hi, hf⟩
    · simp [mode] at h
    · exact hf (s.staging.allFree_iff.mp free i hi)
  constructor
  case halted =>
    intro mode free
    rw [ended, drain, if_pos ⟨mode, s.staging.allFree_iff.mpr free⟩, State.takeJob_idle]
    simp [State.takeDue, State.mayTake]
  case idle =>
    intro notReady notDrain
    rw [ended, drain, if_neg fun h => notDrain h.1, State.takeJob_idle]
    simp [State.takeDue, State.mayTake, notReady, notDrain]
  case refused =>
    intro mode empty
    rw [stays mode, State.takeJob_idle]
    simp [State.takeDue, empty]
  case taken =>
    intro mode _
    rw [stays mode]
    exact State.takeJob_jobTaken _ law rfl (mode.imp id And.left)

/-! ## Requests of the journal -/

/-- The latch set touches neither slots, queue nor job (R165, R27). -/
theorem State.StagingLaw.latched {s : State} (law : s.StagingLaw) : s.latched.StagingLaw := by
  unfold State.latched
  split
  · exact law
  · exact law.congr rfl rfl rfl

/-- A job that holds no slot given up. -/
theorem State.StagingLaw.dropJob {s : State} (law : s.StagingLaw) (empty : ∀ j, s.engine.job = some j → j.slots = []) :
    (s.withJob none).StagingLaw :=
  law.replaceJob rfl empty nofun

/-- All that the failure of the request being carried out can do (R77, R8). -/
theorem State.failRequest_requestFailed (s : State) (law : s.StagingLaw) : s.RequestFailed s.failRequest where
  remap l new old cause rest j hq hj := by
    have fails : s.failRequest = (s.withJournal s.journal.endRequest).abandonJob := by
      simp [State.failRequest, hq, State.requesterFailed]
    rw [fails, Journal.endRequest, hq]
    exact State.abandonJob_jobAbandoned _ j (law.congr rfl rfl rfl) hj
  retire p cause rest j hq hj := by
    have fails : s.failRequest =
        (if j.awaited = some .retireSource then ((s.withJournal s.journal.endRequest).clearRetirePending p).endJob
        else ((s.withJournal s.journal.endRequest).clearRetirePending p).abandonJob) := by
      simp only [State.failRequest, hq, State.requesterFailed, State.clearRetirePending_engine, State.withJournal_engine, hj]
      obtain ⟨logical, source, slots, kind, target, attempt, cursor, phase, fallback, awaited⟩ := j
      rcases awaited with _ | (_ | _ | _ | _) <;> rfl
    have ended : (s.withJournal s.journal.endRequest).clearRetirePending p =
        { s with
          tables := s.tables.setRecord p { s.tables.record p with retirePending := false }
          journal := { s.journal with requests := rest, activity := .idle, opening := none } } := by
      simp [State.clearRetirePending, State.withJournal, State.withTables, Journal.endRequest, hq, Tables.setPending]
    rw [fails, ended]
    refine ⟨fun other => ?_, fun source => ?_⟩
    · rw [if_neg other]
      exact State.abandonJob_jobAbandoned _ j (law.congr rfl rfl rfl) hj
    · rw [if_pos source]
      refine State.endJob_jobEnded _ (State.StagingLaw.dropJob (law.congr rfl rfl rfl) fun k hk => ?_)
      obtain rfl := Option.some.inj (hj.symm.trans hk)
      exact law.source j hj source
  eraseEngine p cause rest hq := by
    have fails : s.failRequest = State.endTurn
        { s with
          tables := s.tables.setRecord p { s.tables.record p with retirePending := false }
          journal := { s.journal with requests := rest, activity := .idle, opening := none } } := by
      simp [State.failRequest, hq, State.requesterFailed, State.clearRetirePending, State.withJournal, State.withTables,
        Journal.endRequest, Tables.setPending]
    rw [fails]
    exact State.endTurn_turnEnded _
  record k rest hq := by
    have fails : s.failRequest = State.endTurn
        { s with journal := { s.journal with requests := rest, activity := .idle, opening := none } } := by
      simp [State.failRequest, hq, State.requesterFailed, State.withJournal, Journal.endRequest]
    rw [fails]
    exact State.endTurn_turnEnded _

/-- All that an opening asked for with the map in force does first (R79, R80). -/
theorem State.beginOpening_openingBegun (s : State) (p : OpenPurpose) (law : s.StagingLaw) (first : JournalRequest)
    (rest : List JournalRequest) (hq : s.journal.requests = first :: rest) (hp : p = .entry ∨ p = .recording) :
    s.OpeningBegun (s.beginOpening p) p first.requester where
  candidate a c n ha hn notLast next := by
    have begins : s.beginOpening p = s.tryCandidate p (n + 1) c := by
      simp [State.beginOpening, ha, hn, notLast, s.nextUsable_of_nextSector a c next]
    rw [begins]
    exact s.tryCandidate_taken p (n + 1) c first rest hq hp
  exhausted a ha hn := by
    have fails : s.beginOpening p = s.latched.failRequest := by simp [State.beginOpening, ha, hn, State.setLatch_eq]
    rw [fails]
    exact s.latched.failRequest_requestFailed law.latched

/-- All that the begin of the first request of the journal's list can do (R75, R76, R77, R84). -/
theorem State.beginRequest_requestBegun (s : State) (law : s.StagingLaw) : s.RequestBegun s.beginRequest where
  appends who e rest a q hq ha usable hpos low := by
    have begins : s.beginRequest =
        (s.withJournal { s.journal with activity := .appending, opening := none }).journalOp
          (.program (a * 4096 + q * 16) (payloadImage e)) := by
      simp [State.beginRequest, hq, ha, usable, hpos, low, State.appendEntry, Journal.entry, Journal.appendAddr, positionAddr]
    rw [begins]
    exact State.journalOp_eq _ (.append who e) rest _ hq nofun
  opens who e rest a hq ha usable full latch := by
    have begins : s.beginRequest = s.beginOpening .entry := by
      simp [State.beginRequest, hq, ha, usable, full, latch]
    rw [begins]
    exact s.beginOpening_openingBegun .entry law (.append who e) rest hq (.inl rfl)
  records k rest hq latch := by
    have begins : s.beginRequest = s.beginOpening .recording := by simp [State.beginRequest, hq, latch]
    rw [begins]
    exact s.beginOpening_openingBegun .recording law (.record k) rest hq (.inr rfl)
  full who e rest a hq ha usable full latch := by
    have fails : s.beginRequest = s.failRequest := by simp [State.beginRequest, hq, ha, usable, full, latch]
    rw [fails]
    exact s.failRequest_requestFailed law
  unusable who e rest a hq ha usable := by
    have fails : s.beginRequest = s.failRequest := by simp [State.beginRequest, hq, ha, usable]
    rw [fails]
    exact s.failRequest_requestFailed law
  dropped k rest hq latch := by
    have fails : s.beginRequest = s.failRequest := by simp [State.beginRequest, hq, latch]
    rw [fails]
    exact s.failRequest_requestFailed law

/-- All that taking a request into the journal's list can do (R75). -/
theorem State.addRequest_requestTaken (s : State) (q : JournalRequest) (law : s.StagingLaw) :
    s.RequestTaken (s.addRequest q) q where
  waits busy := by simp [State.addRequest, busy, State.withJournal]
  begun idle := by
    have begins : s.addRequest q = (s.withJournal { s.journal with requests := [q] }).beginRequest := by
      simp [State.addRequest, idle]
    rw [begins]
    exact State.beginRequest_requestBegun _ (law.congr rfl rfl rfl)

/-! ## The completion of an append -/

/-- A command that ends an append well completes it (R76). -/
theorem exec_appendGood (s : State) (c : Instr) (who : Requester) (e : Payload) (rest : List JournalRequest)
    (good : s.appendGood c who e rest) : exec c s = .next ((s.appended rest).requesterDone who e).closeStep := by
  obtain ⟨activity, hq, ends⟩ := good
  have completes : (s.withOp none).appendComplete = (s.appended rest).requesterDone who e := by
    simp [State.appendComplete, State.withOp, State.withLink, hq, Journal.endRequest, State.withJournal, State.appended]
  rcases ends with ⟨st, a, data, since, rfl, op, busy, fail, verify⟩ | ⟨a, rfl, op⟩
  · have ready : busyFlag st = false := busy
    have passed : failFlag st = false := fail
    simp [exec, execProgramEnd, op, ready, passed, State.programOutcome, State.journalProgramEnd, activity, verify, completes]
  · simp [exec, execReadBackEnd, op, State.readBackOutcome, State.journalReadBackEnd, activity, Journal.entry, hq, completes]

/-- The slots that a job's good end leaves (R33). -/
theorem State.slotsFreed_freeSlots (s : State) (j : Job) (law : s.StagingLaw) (hj : s.engine.job = some j) :
    s.SlotsFreed j (s.staging.freeSlots j.slots) := by
  refine ⟨?_, fun i _ hi => ?_, fun i hi => ?_⟩
  · rw [Staging.mk.injEq]
    exact ⟨rfl, Staging.freeSlots_queue _ _, Staging.freeSlots_waiting _ _⟩
  · rw [Staging.slot_freeSlots, if_neg fun h => hi h.1]
  · rw [Staging.slot_freeSlots, if_pos ⟨hi, (law.committing hj hi).1⟩]
    refine ⟨rfl, rfl, rfl, rfl, fun o ho => ?_⟩
    simp [Slot.freed, Slot.byte, Config.pageBytes, ho]

/-- The tables after the completion of a REMAP (R13). -/
def Tables.remapped (t : Tables) (l new old : Nat) : Tables :=
  ((t.setEntry l new).setState new .mapped (some l)).setState old .spareDirty none

theorem Tables.entry_remapped (t : Tables) (l new old k : Nat) (hl : l < 256) :
    (t.remapped l new old).entry k = if k = l then some new else t.entry k := by
  refine (t.entry_setEntry l k new).trans ?_
  by_cases h : k = l
  · simp [h, hl]
  · simp [h, Ne.symm h]

theorem Tables.record_remapped (t : Tables) (l new old p : Nat) (hn : new < 512) (ho : old < 512) (apart : new ≠ old) :
    (t.remapped l new old).record p =
      if p = new then { t.record new with state := some .mapped, owner := some l }
      else if p = old then { t.record old with state := some .spareDirty, owner := none }
      else t.record p := by
  have entry : ∀ q, (t.setEntry l new).record q = t.record q := fun _ => rfl
  simp only [Tables.remapped, Tables.setState, record_setRecord, entry]
  by_cases h1 : p = new
  · subst h1; simp [hn, Ne.symm apart]
  by_cases h2 : p = old
  · subst h2; simp [ho, apart, Ne.symm apart]
  · simp [h1, h2, Ne.symm h1, Ne.symm h2]

/-- What the latch changes does not depend on the job. -/
theorem State.latched_withJob (s : State) (k : Option Job) : (s.withJob k).latched = s.latched.withJob k := by
  by_cases h : s.ctl.degraded = true
  · rw [State.latched, if_pos (by exact h), State.latched, if_pos h]
  · rw [State.latched, if_neg (by exact h), State.latched, if_neg h]
    rfl

/-- Settles O54: the completion frees the job's slots and moves the tables in one step, and what follows is the end of the job or
the request of its source's RETIRE, in a state that keeps the staging law. -/
theorem remapCompletionChangesFourParts : Obligations.RemapCompletionChangesFourParts := by
  intro s c j l new old cause rest good law hj hl hn ho apart
  have done := exec_appendGood s c .commitEngine (.remap l new old cause) rest good
  refine ⟨s.staging.freeSlots j.slots, s.tables.remapped l new old, s.slotsFreed_freeSlots j law hj,
    fun k _ => s.tables.entry_remapped l new old k hl, fun p _ => s.tables.record_remapped l new old p hn ho apart, ?_⟩
  intro moved finishing answers
  have four : (s.appended rest).completeRemap l new old j.slots = moved := rfl
  have engine : (s.appended rest).engine.job = some j := hj
  have ended : (moved.withJob none).StagingLaw := law.freeSlots hj rfl nofun
  refine ⟨fun noCause => ?_, fun failure hasCause => ⟨fun room => ?_, fun full => ?_⟩⟩
  · have asks : (s.appended rest).requesterDone .commitEngine (.remap l new old cause) =
        (moved.withJob (some finishing)).endJob := by
      simp [State.requesterDone, State.remapDone, engine, noCause, four, finishing]
    exact ⟨_, done.trans (by rw [asks]; rfl), State.endJob_jobEnded moved ended⟩
  · have asks : (s.appended rest).requesterDone .commitEngine (.remap l new old cause) =
        ((moved.markRetirePending old).withJob (some { finishing with awaited := some .retireSource })).addRequest
          (.append .commitEngine (.retire old failure)) := by
      have room : moved.mayRetire = true := by simpa [State.mayRetire, moved] using room
      simp [State.requesterDone, State.remapDone, engine, hasCause, four, finishing, room]
    refine ⟨_, done.trans (by rw [asks]; rfl), State.addRequest_requestTaken _ _ (law.freeSlots hj rfl ?_)⟩
    rintro k ⟨⟩
    rfl
  · have asks : (s.appended rest).requesterDone .commitEngine (.remap l new old cause) =
        (moved.withJob (some finishing)).setLatch.endJob := by
      have full : ¬moved.mayRetire = true := by simpa [State.mayRetire, moved] using full
      simp [State.requesterDone, State.remapDone, engine, hasCause, four, finishing, full]
    rw [State.setLatch_eq, State.latched_withJob] at asks
    refine ⟨_, done.trans (by rw [asks]; rfl), State.endJob_jobEnded moved.latched ?_⟩
    rw [← State.latched_withJob]
    exact ended.latched

end Sys2Proof.Machine
end

section
namespace Sys2Proof.Machine

/-! ## What leaves the map and the mount record alone

One lemma per operation that changes the tables but not the map, or the mode controller but not the mount record; what changes
neither tables nor mode controller has its frame lemmas already. -/

@[simp] theorem Tables.setRecord_map (t : Tables) (p : Nat) (r : SectorRecord) : (t.setRecord p r).map = t.map := rfl
@[simp] theorem Tables.setState_map (t : Tables) (p : Nat) (st : SectorState) (owner : Option Nat) :
    (t.setState p st owner).map = t.map := rfl
@[simp] theorem Tables.setPending_map (t : Tables) (p : Nat) (b : Bool) : (t.setPending p b).map = t.map := rfl
@[simp] theorem Tables.setUsable_map (t : Tables) (j : Nat) (b : Bool) : (t.setUsable j b).map = t.map := rfl

@[simp] theorem State.setLatch_mount (s : State) : s.setLatch.ctl.mount = s.ctl.mount := by
  rw [State.setLatch_eq, State.latched]
  split <;> rfl

@[simp] theorem State.drainTest_mount (s : State) : s.drainTest.ctl.mount = s.ctl.mount := by
  rw [State.drainTest_eq]
  split <;> rfl

@[simp] theorem State.abandonJob_map (s : State) : s.abandonJob.tables.map = s.tables.map := by
  cases hj : s.engine.job with
  | none => simp [State.abandonJob, hj]
  | some j => rw [s.abandonJob_eq j hj]; cases j.target <;> rfl

@[simp] theorem State.requestTarget_map (s : State) : s.requestTarget.tables.map = s.tables.map := by
  unfold State.requestTarget
  repeat' split
  all_goals simp

@[simp] theorem State.allocatePhase_map (s : State) (j : Job) : (s.allocatePhase j).tables.map = s.tables.map := by
  simp [State.allocatePhase]

@[simp] theorem State.beginDecide_map (s : State) (j : Job) : (s.beginDecide j).tables.map = s.tables.map := by
  unfold State.beginDecide
  split <;> simp

@[simp] theorem State.takeJob_map (s : State) : s.takeJob.tables.map = s.tables.map := by
  unfold State.takeJob
  split <;> simp

@[simp] theorem State.endJob_map (s : State) : s.endJob.tables.map = s.tables.map := by
  simp [State.endJob]

@[simp] theorem State.endJob_mount (s : State) : s.endJob.ctl.mount = s.ctl.mount := by
  simp [State.endJob]

@[simp] theorem State.markRetirePending_map (s : State) (p : Nat) : (s.markRetirePending p).tables.map = s.tables.map := rfl

@[simp] theorem State.clearRetirePending_map (s : State) (p : Nat) : (s.clearRetirePending p).tables.map = s.tables.map := rfl

@[simp] theorem State.completeRetire_map (s : State) (p : Nat) : (s.completeRetire p).tables.map = s.tables.map := by
  simp only [State.completeRetire]
  split <;> simp

@[simp] theorem State.spareErased_map (s : State) (p : Nat) : (s.spareErased p).tables.map = s.tables.map := by
  unfold State.spareErased
  split <;> simp

/-! ### The journal's requests -/

@[simp] theorem State.requesterFailed_map (s : State) (q : JournalRequest) : (s.requesterFailed q).tables.map = s.tables.map := by
  simp only [State.requesterFailed]
  repeat' split
  all_goals simp

@[simp] theorem State.requesterFailed_mount (s : State) (q : JournalRequest) : (s.requesterFailed q).ctl.mount = s.ctl.mount := by
  simp only [State.requesterFailed]
  repeat' split
  all_goals simp

@[simp] theorem State.failRequest_map (s : State) : s.failRequest.tables.map = s.tables.map := by
  unfold State.failRequest
  split <;> simp

@[simp] theorem State.failRequest_mount (s : State) : s.failRequest.ctl.mount = s.ctl.mount := by
  unfold State.failRequest
  split <;> simp

@[simp] theorem State.beginOpening_map (s : State) (p : OpenPurpose) : (s.beginOpening p).tables.map = s.tables.map := by
  unfold State.beginOpening
  repeat' split
  all_goals simp

@[simp] theorem State.beginOpening_mount (s : State) (p : OpenPurpose) : (s.beginOpening p).ctl.mount = s.ctl.mount := by
  unfold State.beginOpening
  repeat' split
  all_goals simp

@[simp] theorem State.beginRequest_map (s : State) : s.beginRequest.tables.map = s.tables.map := by
  unfold State.beginRequest
  repeat' split
  all_goals simp

@[simp] theorem State.beginRequest_mount (s : State) : s.beginRequest.ctl.mount = s.ctl.mount := by
  unfold State.beginRequest
  repeat' split
  all_goals simp

@[simp] theorem State.addRequest_map (s : State) (q : JournalRequest) : (s.addRequest q).tables.map = s.tables.map := by
  simp only [State.addRequest]
  split <;> simp

@[simp] theorem State.addRequest_mount (s : State) (q : JournalRequest) : (s.addRequest q).ctl.mount = s.ctl.mount := by
  simp only [State.addRequest]
  split <;> simp

@[simp] theorem State.withdrawUsable_map (s : State) (j : Nat) : (s.withdrawUsable j).tables.map = s.tables.map := by
  simp only [State.withdrawUsable]
  split <;> simp

@[simp] theorem State.withdrawUsable_mount (s : State) (j : Nat) : (s.withdrawUsable j).ctl.mount = s.ctl.mount := by
  simp only [State.withdrawUsable]
  split <;> simp

@[simp] theorem State.appendFailed_map (s : State) : s.appendFailed.tables.map = s.tables.map := by
  simp only [State.appendFailed]
  split <;> simp

@[simp] theorem State.commitRetireDone_map (s : State) : s.commitRetireDone.tables.map = s.tables.map := by
  simp only [State.commitRetireDone]
  repeat' split
  all_goals simp

/-! ### The commit engine and the erase engine -/

@[simp] theorem State.programFrom_map (s : State) (j : Job) (k : Nat) : (s.programFrom j k).tables.map = s.tables.map := by
  unfold State.programFrom
  split <;> simp

@[simp] theorem State.copyFrom_map (s : State) (j : Job) (k : Nat) : (s.copyFrom j k).tables.map = s.tables.map := by
  unfold State.copyFrom
  split <;> simp

@[simp] theorem State.pageDone_map (s : State) (j : Job) : (s.pageDone j).tables.map = s.tables.map := by
  unfold State.pageDone
  split <;> simp

@[simp] theorem State.pageFailed_map (s : State) (j : Job) (cause : RetireCause) :
    (s.pageFailed j cause).tables.map = s.tables.map := by
  unfold State.pageFailed
  repeat' split
  all_goals simp

@[simp] theorem State.pageReadDone_map (s : State) (bytes : List Byte) : (s.pageReadDone bytes).tables.map = s.tables.map := by
  simp only [State.pageReadDone]
  repeat' split
  all_goals simp

@[simp] theorem State.commitProgramEnd_map (s : State) (fail : Bool) : (s.commitProgramEnd fail).tables.map = s.tables.map := by
  unfold State.commitProgramEnd
  repeat' split
  all_goals simp

@[simp] theorem State.commitReadBackEnd_map (s : State) (bytes : List Byte) :
    (s.commitReadBackEnd bytes).tables.map = s.tables.map := by
  unfold State.commitReadBackEnd
  repeat' split
  all_goals simp

@[simp] theorem State.commitEraseEnd_map (s : State) (p : Nat) (fail : Bool) :
    (s.commitEraseEnd p fail).tables.map = s.tables.map := by
  unfold State.commitEraseEnd
  repeat' split
  all_goals simp

@[simp] theorem State.spareEraseEnd_map (s : State) (p : Nat) (fail : Bool) :
    (s.spareEraseEnd p fail).tables.map = s.tables.map := by
  unfold State.spareEraseEnd
  repeat' split
  all_goals simp

@[simp] theorem State.grantAllocationErase_map (s : State) (p : Nat) : (s.grantAllocationErase p).tables.map = s.tables.map := by
  unfold State.grantAllocationErase
  split <;> simp

@[simp] theorem State.grantCommit_map (s : State) (user : LinkUser) (o : FlashOp) :
    (s.grantCommit user o).tables.map = s.tables.map := by
  simp only [State.grantCommit]
  split <;> simp

@[simp] theorem State.beginGranted_map (s : State) : s.beginGranted.tables.map = s.tables.map := by
  simp only [State.beginGranted]
  repeat' split
  all_goals simp

/-! ## The openings, with no mount under way -/

/-- From s to t the map is kept while the map is in force (R3, R13). -/
def State.KeepsMap (s t : State) : Prop :=
  t.ctl.mode.inForce = true → t.tables.map = s.tables.map

theorem State.KeepsMap.of_eq {s t : State} (h : t.tables.map = s.tables.map) : s.KeepsMap t :=
  fun _ => h

theorem State.KeepsMap.of_mode {s t : State} (h : t.ctl.mode.inForce = false) : s.KeepsMap t :=
  fun inForce => by simp [h] at inForce

/-- A change that keeps the map, after one that leaves it. -/
theorem State.KeepsMap.after {s t u : State} (h : t.KeepsMap u) (same : t.tables.map = s.tables.map) : s.KeepsMap u :=
  fun inForce => (h inForce).trans same

theorem State.KeepsMap.closeStep {s t : State} (h : s.KeepsMap t) : s.KeepsMap t.closeStep := by
  simpa [State.KeepsMap] using h

theorem State.abandonOpening_keepsMap (s : State) (o : Opening) (leftValid : Bool) (noMount : s.ctl.mount = none) :
    s.KeepsMap (s.abandonOpening o leftValid) := by
  unfold State.abandonOpening
  cases o.purpose with
  | entry => exact .of_eq s.failRequest_map
  | recording => exact .of_eq s.failRequest_map
  | format => exact .of_mode rfl
  | mount => rw [noMount]; exact .of_eq rfl

theorem State.nextCandidate_keepsMap (s : State) (o : Opening) (leftValid : Bool) (noMount : s.ctl.mount = none) :
    s.KeepsMap (s.nextCandidate o leftValid) := by
  have abandons := s.abandonOpening_keepsMap o leftValid noMount
  have tries : ∀ c, s.KeepsMap (s.tryCandidate o.purpose o.number c) := fun c => .of_eq (by simp)
  unfold State.nextCandidate
  split
  · split
    · exact abandons
    · split
      · exact abandons
      · split
        · exact abandons
        · exact tries _
  · split
    · exact (State.abandonOpening_keepsMap _ o leftValid (by simpa using noMount)).after (by simp)
    · split
      · exact abandons
      · split
        · exact abandons
        · exact tries _

@[simp] theorem State.withdrawCandidate_map (s : State) (p : OpenPurpose) (j : Nat) :
    (s.withdrawCandidate p j).tables.map = s.tables.map := by
  unfold State.withdrawCandidate
  split <;> simp

/-- With no mount under way a candidate is withdrawn from the flags in force (R82, R83). -/
theorem State.withdrawCandidate_mount (s : State) (p : OpenPurpose) (j : Nat) (noMount : s.ctl.mount = none) :
    (s.withdrawCandidate p j).ctl.mount = none := by
  simp [State.withdrawCandidate, noMount]

theorem State.candidateFailed_keepsMap (s : State) (o : Opening) (headIssued : Bool) (noMount : s.ctl.mount = none) :
    s.KeepsMap (s.candidateFailed o headIssued) := by
  simp only [State.candidateFailed]
  split
  · exact .of_eq (by simp)
  · exact (State.nextCandidate_keepsMap _ o false (s.withdrawCandidate_mount _ _ noMount)).after (by simp)

/-- With no mount under way a complete opening installs nothing (R81). -/
theorem State.completeOpening_map (s : State) (o : Opening) (noMount : s.ctl.mount = none) :
    (s.completeOpening o).tables.map = s.tables.map := by
  simp only [State.completeOpening, noMount]
  cases o.purpose <;> simp

theorem State.positionWritten_map (s : State) (o : Opening) (q : Nat) (noMount : s.ctl.mount = none) :
    (s.positionWritten o q).tables.map = s.tables.map := by
  simp only [State.positionWritten]
  generalize (if q = 0 then { o with images := s.openingCheckpoint o } else o) = written
  split
  · simp
  · exact s.completeOpening_map _ noMount

theorem State.journalEraseEnd_keepsMap (s : State) (fail : Bool) (noMount : s.ctl.mount = none) :
    s.KeepsMap (s.journalEraseEnd fail) := by
  unfold State.journalEraseEnd
  split
  · split
    · split
      · exact s.candidateFailed_keepsMap _ false noMount
      · exact .of_eq (by simp)
    · exact .of_eq rfl
  · exact .of_eq rfl

theorem State.openingFinds_keepsMap (s : State) (j : Nat) (fail : Bool) (noMount : s.ctl.mount = none) :
    s.KeepsMap (s.openingFinds j fail) := by
  simp only [State.openingFinds]
  split
  · split
    · split
      · exact (State.nextCandidate_keepsMap _ _ false (by simpa using noMount)).after (by simp)
      · exact .of_eq (by simp)
    · exact .of_eq rfl
  · exact .of_eq rfl

theorem State.journalSectorErased_keepsMap (s : State) (j : Nat) (fail : Bool) (noMount : s.ctl.mount = none) :
    s.KeepsMap (s.journalSectorErased j fail) := by
  simp only [State.journalSectorErased]
  split
  · split <;> exact (State.openingFinds_keepsMap _ j true (by simpa using noMount)).after (by simp)
  · exact (State.openingFinds_keepsMap _ j false (by simpa using noMount)).after (by simp)

theorem State.eraserEraseEnd_keepsMap (s : State) (fail : Bool) (noMount : s.ctl.mount = none) :
    s.KeepsMap (s.eraserEraseEnd fail) := by
  unfold State.eraserEraseEnd
  cases s.pool.eraser with
  | erasingJournal j => exact s.journalSectorErased_keepsMap j fail noMount
  | erasingSpare p => exact .of_eq (by simp)
  | idle => exact .of_eq rfl
  | requesting => exact .of_eq rfl
  | retiring p => exact .of_eq rfl
  | recording j => exact .of_eq rfl

/-! ## The outcomes of link operations, with no mount under way -/

theorem State.endErase_keepsMap (s : State) (e : EraseRecord) (st : Byte) (noMount : s.ctl.mount = none) :
    s.KeepsMap (s.endErase e st) := by
  unfold State.endErase State.eraseOutcome
  cases e.user with
  | commitEngine => exact .of_eq (by simp)
  | journal => exact (State.journalEraseEnd_keepsMap _ _ (by simpa using noMount)).after (by simp)
  | eraseEngine => exact (State.eraserEraseEnd_keepsMap _ _ (by simpa using noMount)).after (by simp)
  | mount => exact .of_eq (by simp [State.formatEraseEnd, noMount])
  | readService => exact .of_eq (by simp)

/-- The completion of an append changes the map when the entry is a REMAP, and then in its entry alone (R13, R14). -/
theorem State.requesterDone_map (s : State) (who : Requester) (e : Payload) :
    (s.requesterDone who e).tables.map =
      match e with
      | .remap l new _ _ => (s.tables.setEntry l new).map
      | .retire _ _ => s.tables.map := by
  cases e with
  | remap l new old cause =>
    have four : ∀ slots, (s.completeRemap l new old slots).tables.map = (s.tables.setEntry l new).map := fun _ => rfl
    simp only [State.requesterDone, State.remapDone]
    split
    · exact four []
    · split
      · simp [four]
      · split <;> simp [four]
  | retire p cause => cases who <;> simp [State.requesterDone]

/-- A completed append that changes the map is that of a REMAP (R76). -/
theorem State.appendComplete_map (s : State) (changed : s.appendComplete.tables.map ≠ s.tables.map) :
    ∃ who l new old cause rest, s.journal.requests = .append who (.remap l new old cause) :: rest ∧
      s.appendComplete.tables.map = (s.tables.setEntry l new).map := by
  cases hq : s.journal.requests with
  | nil => simp [State.appendComplete, hq] at changed
  | cons q rest =>
    cases q with
    | record j => simp [State.appendComplete, hq] at changed
    | append who e =>
      cases e with
      | retire p cause => simp [State.appendComplete, hq, State.requesterDone_map] at changed
      | remap l new old cause =>
        exact ⟨who, l, new, old, cause, rest, rfl, by simp [State.appendComplete, hq, State.requesterDone_map]⟩

/-- The end of a program of the journal completes an append, without FAIL and with verify off, or keeps the map (R76, R78, R81). -/
theorem State.journalProgramEnd_keepsMap (s : State) (fail : Bool) (noMount : s.ctl.mount = none) :
    s.KeepsMap (s.journalProgramEnd fail) ∨
      s.journal.activity = .appending ∧ fail = false ∧ s.values.verify = false ∧ s.journalProgramEnd fail = s.appendComplete := by
  unfold State.journalProgramEnd
  split
  · next appending =>
    split
    · exact .inl (.of_eq s.appendFailed_map)
    · next good =>
      split
      · exact .inl (.of_eq (by simp))
      · next verify => exact .inr ⟨appending, by simpa using good, by simpa using verify, rfl⟩
  · left
    split
    · split
      · exact s.candidateFailed_keepsMap _ true noMount
      · split
        · exact .of_eq (by simp)
        · exact .of_eq (s.positionWritten_map _ _ noMount)
    · exact .of_eq (by simp)
    all_goals exact .of_eq rfl
  · exact .inl (.of_eq rfl)

/-- The end of a read-back of the journal completes an append whose entry it matches, or keeps the map (R76, R78, R81, R82). -/
theorem State.journalReadBackEnd_keepsMap (s : State) (bytes : List Byte) (noMount : s.ctl.mount = none) :
    s.KeepsMap (s.journalReadBackEnd bytes) ∨
      s.journal.activity = .appending ∧ s.journal.entry.map payloadImage = some bytes ∧
        s.journalReadBackEnd bytes = s.appendComplete := by
  unfold State.journalReadBackEnd
  split
  · next appending =>
    split
    · next matching => exact .inr ⟨appending, matching, rfl⟩
    · exact .inl (.of_eq s.appendFailed_map)
  · left
    split
    · split
      · exact .of_eq (s.positionWritten_map _ _ noMount)
      · exact s.candidateFailed_keepsMap _ true noMount
    · exact s.nextCandidate_keepsMap _ _ noMount
    all_goals exact .of_eq rfl
  · exact .inl (.of_eq rfl)

/-! ## Each command, with no mount under way -/

/-- A PROGRAM_END keeps the map or completes an append of the journal (R76, R111). -/
theorem exec_programEnd_keepsMap (s t : State) (st : Byte) (noMount : s.ctl.mount = none) (h : exec (.programEnd st) s = .next t) :
    s.KeepsMap t ∨
      (∃ addr data since, s.link.op = some { user := .journal, op := .program addr data, stage := .polling since }) ∧
        s.journal.activity = .appending ∧ busyFlag st = false ∧ failFlag st = false ∧ s.values.verify = false ∧
        t = (s.withOp none).appendComplete.closeStep := by
  obtain rfl := Host.Outcome.next.inj h
  split
  · next user addr data since op =>
    split
    · exact .inl (.of_eq rfl)
    · next busy =>
      cases user with
      | journal =>
        rcases (s.withOp none).journalProgramEnd_keepsMap (failFlag st) noMount with kept | ⟨appending, fail, verify, completes⟩
        · exact .inl kept.closeStep
        · exact .inr ⟨⟨addr, data, since, op⟩, appending, by simpa using busy, fail, verify,
            congrArg State.closeStep completes⟩
      | commitEngine => exact .inl (.of_eq (by simp [State.programOutcome]))
      | mount => exact .inl (.of_eq (by simp [State.programOutcome]))
      | eraseEngine => exact .inl (.of_eq (by simp [State.programOutcome]))
      | readService => exact .inl (.of_eq (by simp [State.programOutcome]))
  · exact .inl (.of_eq rfl)

/-- A READ_BACK_END keeps the map or completes an append of the journal (R76, R109). -/
theorem exec_readBackEnd_keepsMap (s t : State) (bytes : List Byte) (noMount : s.ctl.mount = none)
    (h : exec (.readBackEnd bytes) s = .next t) :
    s.KeepsMap t ∨
      (∃ addr len, s.link.op = some { user := .journal, op := .readBack addr len, stage := .reading }) ∧
        s.journal.activity = .appending ∧ s.journal.entry.map payloadImage = some bytes ∧
        t = (s.withOp none).appendComplete.closeStep := by
  obtain rfl := Host.Outcome.next.inj h
  split
  · next user addr len op =>
    split
    · cases user with
      | journal =>
        rcases (s.withOp none).journalReadBackEnd_keepsMap bytes noMount with kept | ⟨appending, matching, completes⟩
        · exact .inl kept.closeStep
        · exact .inr ⟨⟨addr, len, op⟩, appending, matching, congrArg State.closeStep completes⟩
      | commitEngine => exact .inl (.of_eq (by simp [State.readBackOutcome]))
      | mount => exact .inl (.of_eq (by simp [State.readBackOutcome, State.formatReadBackEnd, noMount]))
      | eraseEngine => exact .inl (.of_eq (by simp [State.readBackOutcome]))
      | readService => exact .inl (.of_eq (by simp [State.readBackOutcome]))
    · exact .inl (.of_eq rfl)
  · exact .inl (.of_eq rfl)

/-- Every other command keeps the map. -/
theorem exec_other_keepsMap (c : Instr) (s t : State) (noMount : s.ctl.mount = none) (h : exec c s = .next t)
    (notProgram : ∀ st, c ≠ .programEnd st) (notReadBack : ∀ bytes, c ≠ .readBackEnd bytes) : s.KeepsMap t := by
  cases c
  case programEnd st => exact absurd rfl (notProgram st)
  case readBackEnd bytes => exact absurd rfl (notReadBack bytes)
  all_goals obtain rfl := Host.Outcome.next.inj h
  case rstnAssert => exact .of_mode rfl
  case powerOn => exact .of_mode rfl
  case suspendLatencyExpiry => split; exacts [.of_mode (by simp [State.enterFault, Mode.inForce]), .of_eq rfl]
  case busyLimitExpiry => split; exacts [.of_mode (by simp [State.enterFault, Mode.inForce]), .of_eq rfl]
  case writeEnableStatus st =>
    split
    · split
      · exact .of_eq (by simp)
      · exact .of_mode (by simp [State.enterFault, Mode.inForce])
    · split
      · exact .of_eq (by simp)
      · exact .of_mode (by simp [State.enterFault, Mode.inForce])
    · exact .of_eq rfl
  case identifyEnd => rw [noMount]; exact .of_eq (by simp)
  case mountReadEnd bytes =>
    split
    · split
      · exact .of_eq (by simp [State.mountReadDone, noMount])
      · exact .of_eq rfl
    · exact .of_eq rfl
  case eraseEnd st =>
    split
    · split
      · exact (s.endErase_keepsMap _ st noMount).closeStep
      · exact .of_eq rfl
    · exact .of_eq rfl
  case suspendStatus st =>
    split
    · split
      · split
        · exact .of_eq rfl
        · split
          · exact .of_eq (by simp)
          · exact (s.endErase_keepsMap _ st noMount).closeStep
      all_goals exact .of_eq rfl
    · exact .of_eq rfl
  case powerWarningAssertion =>
    split
    · exact .of_eq rfl
    · refine .of_eq ?_
      simp only [State.closeStep_tables]
      split <;> simp
  case powerWarningDeassertion =>
    split
    · exact .of_eq rfl
    · refine .of_eq ?_
      simp only [State.closeStep_tables]
      split <;> simp
  case hostReadRunEnd bytes =>
    split
    · split
      · refine .of_eq ?_
        simp only [State.closeStep_tables, State.tryResume_tables]
        repeat' split
        all_goals simp
      · exact .of_eq rfl
    · exact .of_eq rfl
  -- The rest do not touch the tables, or hand on to one operation that keeps the map.
  all_goals
    refine .of_eq ?_
    repeat' split
    all_goals simp

/-! ## The map's change -/

/-- The entries of a map that is another's with one entry replaced. -/
theorem Tables.entry_of_map_setEntry (t u : Tables) (l p k : Nat) (h : u.map = (t.setEntry l p).map) (hk : k < 256) :
    u.entry k = if k = l then some p else t.entry k := by
  have same : u.entry k = (t.setEntry l p).entry k := by rw [Tables.entry, Tables.entry, h]
  rw [same, Tables.entry_setEntry]
  by_cases hkl : k = l
  · simp [← hkl, hk]
  · simp [hkl, Ne.symm hkl]

/-- Settles O9: with the map in force no mount is under way, so that nothing is installed; the commands but two keep the map, and of
those two it is the completion of the journal's append, and the entry then is a REMAP. -/
theorem mapChangesAtAppendCompletionOnly : Obligations.MapChangesAtAppendCompletionOnly := by
  intro c s t law inForce h inForceAfter changed
  have noMount : s.ctl.mount = none := by
    by_contra hm
    have := law.mount (Option.isSome_iff_ne_none.mpr hm)
    cases mode : s.ctl.mode <;> simp [mode, Mode.inForce, Mode.isMount] at inForce this
  have notKept : ¬s.KeepsMap t := fun kept => changed (kept inForceAfter)
  have remap : t = (s.withOp none).appendComplete.closeStep →
      ∃ who l new old cause rest, s.journal.requests = .append who (.remap l new old cause) :: rest ∧
        ∀ k < 256, t.tables.entry k = if k = l then some new else s.tables.entry k := by
    rintro rfl
    obtain ⟨who, l, new, old, cause, rest, requests, map⟩ := (s.withOp none).appendComplete_map (by simpa using changed)
    exact ⟨who, l, new, old, cause, rest, requests, fun k hk => Tables.entry_of_map_setEntry _ _ l new k (by simpa using map) hk⟩
  by_cases isProgram : ∃ st, c = .programEnd st
  · obtain ⟨st, rfl⟩ := isProgram
    obtain ⟨⟨addr, data, since, op⟩, appending, busy, fail, verify, completes⟩ :=
      (exec_programEnd_keepsMap s t st noMount h).resolve_left notKept
    obtain ⟨who, l, new, old, cause, rest, requests, entries⟩ := remap completes
    exact ⟨_, who, l, new, old, cause, rest, op, rfl, appending, requests,
      .inl ⟨st, addr, data, since, rfl, rfl, rfl, busy, fail, verify⟩, entries⟩
  by_cases isReadBack : ∃ bytes, c = .readBackEnd bytes
  · obtain ⟨bytes, rfl⟩ := isReadBack
    obtain ⟨⟨addr, len, op⟩, appending, matching, completes⟩ :=
      (exec_readBackEnd_keepsMap s t bytes noMount h).resolve_left notKept
    obtain ⟨who, l, new, old, cause, rest, requests, entries⟩ := remap completes
    have image : bytes = payloadImage (.remap l new old cause) := by simpa [Journal.entry, requests, eq_comm] using matching
    exact ⟨_, who, l, new, old, cause, rest, op, rfl, appending, requests, .inr ⟨bytes, addr, len, rfl, rfl, rfl, image⟩, entries⟩
  · exact absurd (exec_other_keepsMap c s t noMount h (not_exists.mp isProgram) (not_exists.mp isReadBack)) notKept

end Sys2Proof.Machine
end

section
namespace Sys2Proof.Machine

/-! ## Slots counted by their state -/

/-- Two counts over a list that holds i once, by tests that agree but at i. -/
theorem countP_add_of_agree_off (p q : Nat → Bool) (l : List Nat) (i : Nat) (hi : i ∈ l) (once : l.Nodup)
    (agree : ∀ k ∈ l, k ≠ i → p k = q k) :
    l.countP p + (if q i then 1 else 0) = l.countP q + (if p i then 1 else 0) := by
  have split := List.perm_cons_erase hi
  have rest : (l.erase i).countP p = (l.erase i).countP q := List.countP_congr fun k hk => by
    obtain ⟨ne, mem⟩ := once.mem_erase_iff.mp hk
    rw [agree k mem ne]
  rw [split.countP_eq p, split.countP_eq q, List.countP_cons, List.countP_cons, rest]
  omega

/-- The count of a state once one slot has changed its state. -/
theorem Staging.count_of_one_changed (g h : Staging) (i : Nat) (hi : i < 16)
    (others : ∀ k < 16, k ≠ i → (h.slot k).state = (g.slot k).state) (st : SlotState) :
    h.count st + (if (g.slot i).state = st then 1 else 0) = g.count st + (if (h.slot i).state = st then 1 else 0) := by
  have agree : ∀ k ∈ slotNumbers, k ≠ i → ((h.slot k).state == st) = ((g.slot k).state == st) := fun k hk ne => by
    rw [others k (List.mem_range.mp hk) ne]
  simpa [Staging.count] using countP_add_of_agree_off _ _ slotNumbers i (List.mem_range.mpr hi) List.nodup_range agree

/-- A count of 0 is a state that no slot is in. -/
theorem Staging.count_eq_zero (g : Staging) (st : SlotState) : g.count st = 0 ↔ ∀ i < 16, (g.slot i).state ≠ st := by
  simp [Staging.count, slotNumbers, Config.slotCount]

theorem Staging.lowestFree_eq_some (g : Staging) (i : Nat) (hi : i < 16) (free : (g.slot i).state = .free)
    (lowest : ∀ k < i, (g.slot k).state ≠ .free) : g.lowestFree = some i := by
  rw [Staging.lowestFree, slotNumbers, List.find?_range_eq_some]
  exact ⟨by simp [free], List.mem_range.mpr hi, fun k hk => by simpa using lowest k hk⟩

theorem Staging.lowestFree_eq_none (g : Staging) (full : ∀ k < 16, (g.slot k).state ≠ .free) : g.lowestFree = none := by
  simpa [Staging.lowestFree, slotNumbers, Config.slotCount] using full

/-! ## Bytes put into a slot -/

/-- What an offset of a slot holds after a list of bytes is put into it: the last of the list's bytes there (R22). -/
theorem Slot.cell_putAll (x : Slot) (l : List (Nat × Byte)) (o : Nat) (ho : o < 256) :
    ((x.putAll l).data[o]?, (x.putAll l).written[o]?) =
      match (l.filter fun b => b.1 == o).getLast? with
      | some b => (some b.2, some true)
      | none => (x.data[o]?, x.written[o]?) := by
  induction l using List.reverseRecOn with
  | nil => rfl
  | append_singleton l b ih =>
    have last : x.putAll (l ++ [b]) = (x.putAll l).put b.1 b.2 := by simp [Slot.putAll]
    rw [last, List.filter_append]
    by_cases hb : b.1 = o
    · subst hb
      simp [Slot.put, Config.pageBytes, ho]
    · simpa [Slot.put, hb] using ih

/-- The bytes of a cycle: none, one, or two of one page at neighbouring offsets, the low lane's first (R134, R135). -/
theorem cycleBytes_cases (wide hlanen : Bool) (a : LogAddr) (had : BitVec 16) :
    cycleBytes wide hlanen a had = [] ∨ (∃ b, cycleBytes wide hlanen a had = [b]) ∨
      ∃ b0 b1, cycleBytes wide hlanen a had = [b0, b1] ∧ b0.lane = .low ∧ b1.lane = .high ∧
        offsetOf b1.addr = offsetOf b0.addr + 1 := by
  cases wide with
  | false => exact .inr (.inl ⟨_, rfl⟩)
  | true =>
    cases odd : a.getLsbD 0 <;> cases hlanen <;> simp only [cycleBytes, odd, if_true]
    · obtain ⟨even, next⟩ := LogAddr.toNat_add_one_of_even a odd
      refine .inr (.inr ⟨_, _, rfl, rfl, rfl, ?_⟩)
      simp only [cycleByte, offsetOf, next]
      omega
    · exact .inr (.inl ⟨_, rfl⟩)
    · exact .inr (.inl ⟨_, rfl⟩)
    · simp

/-- What an offset of a slot holds after the bytes of a cycle, which lie at different offsets, are put into it (R22). -/
theorem Slot.cell_putAll_cycle (x : Slot) (wide hlanen : Bool) (a : LogAddr) (had : BitVec 16) (o : Nat) (ho : o < 256) :
    ((x.putAll (pageWriteOf a (cycleBytes wide hlanen a had)).bytes).data[o]?,
        (x.putAll (pageWriteOf a (cycleBytes wide hlanen a had)).bytes).written[o]?) =
      putAt (cycleBytes wide hlanen a had) o (x.data[o]?, x.written[o]?) := by
  rw [Slot.cell_putAll _ _ _ ho, putAt, pageWriteOf]
  rcases cycleBytes_cases wide hlanen a had with h | ⟨b, h⟩ | ⟨b0, b1, h, -, -, apart⟩
  · simp [h]
  · by_cases hb : b.addr.toNat % 256 = o <;> simp [h, hb, offsetOf]
  · simp only [offsetOf] at apart
    by_cases h0 : b0.addr.toNat % 256 = o
    · have h1 : b1.addr.toNat % 256 ≠ o := by omega
      simp [h, h0, h1, offsetOf]
    · by_cases h1 : b1.addr.toNat % 256 = o <;> simp [h, h0, h1, offsetOf]

/-- An allocated slot holds nothing at any offset; its data byte there stays (R23). -/
theorem Slot.cell_allocated (x : Slot) (page rank o : Nat) (ho : o < 256) :
    ((x.allocated page rank).data[o]?, (x.allocated page rank).written[o]?) = (x.data[o]?, some false) := by
  simp [Slot.allocated, Config.pageBytes, ho]

/-! ## A write taken into a slot -/

/-- FREE slot i holding a write, FILLING with the next rank (R23). -/
def Staging.allocate (g : Staging) (i : Nat) (w : PageWrite) : Staging :=
  g.setSlot i (((g.slot i).allocated w.page (g.count .filling + 1)).putAll w.bytes)

/-- The seal timer after a write has been allocated a slot: the first FILLING slot starts both counts, a later one restarts the
quiet count if it runs (R150, R151). -/
def State.timerAfterAllocation (s : State) : SealTimer :=
  if s.staging.count .filling = 0 then { quiet := startCount s.values.quietMs s.now, hold := startCount s.values.holdMs s.now }
  else { s.timer with quiet := s.timer.quiet.map fun _ => s.now }

section
variable (g : Staging) (i : Nat) (w : PageWrite)

theorem Staging.slot_allocate_self (hi : i < 16) :
    (g.allocate i w).slot i = ((g.slot i).allocated w.page (g.count .filling + 1)).putAll w.bytes := by
  rw [Staging.allocate, slot_setSlot, if_pos ⟨rfl, hi⟩]

theorem Staging.slot_allocate_other (k : Nat) (hk : k ≠ i) : (g.allocate i w).slot k = g.slot k := by
  rw [Staging.allocate, slot_setSlot, if_neg fun h => hk h.1.symm]

@[simp] theorem Staging.allocate_queue : (g.allocate i w).queue = g.queue := rfl

@[simp] theorem Staging.allocate_waiting : (g.allocate i w).waiting = g.waiting := rfl

/-- The slot allocated is FILLING for the write's page, the youngest of the FILLING slots (R23). -/
theorem Staging.slot_allocate_frame (hi : i < 16) :
    ((g.allocate i w).slot i).state = .filling ∧ ((g.allocate i w).slot i).page = some w.page ∧
      ((g.allocate i w).slot i).rank = some (g.count .filling + 1) := by
  rw [g.slot_allocate_self i w hi]
  exact Slot.putAll_frame _ w.bytes

/-- The slot allocated holds the bytes of a cycle alone (R23). -/
theorem Staging.cell_allocate_cycle (wide hlanen : Bool) (a : LogAddr) (had : BitVec 16) (hi : i < 16) (o : Nat) (ho : o < 256) :
    (((g.allocate i (pageWriteOf a (cycleBytes wide hlanen a had))).slot i).data[o]?,
        ((g.allocate i (pageWriteOf a (cycleBytes wide hlanen a had))).slot i).written[o]?) =
      putAt (cycleBytes wide hlanen a had) o ((g.slot i).data[o]?, some false) := by
  rw [g.slot_allocate_self i _ hi, Slot.cell_putAll_cycle _ _ _ _ _ o ho, Slot.cell_allocated _ _ _ o ho]

variable (hi : i < 16) (free : (g.slot i).state = .free)
include hi free

theorem Staging.count_free_allocate : (g.allocate i w).count .free + 1 = g.count .free := by
  have := g.count_of_one_changed (g.allocate i w) i hi (fun k _ hk => by rw [g.slot_allocate_other i w k hk]) .free
  simpa [free, (g.slot_allocate_frame i w hi).1] using this

theorem Staging.count_filling_allocate : (g.allocate i w).count .filling = g.count .filling + 1 := by
  have := g.count_of_one_changed (g.allocate i w) i hi (fun k _ hk => by rw [g.slot_allocate_other i w k hk]) .filling
  simpa [free, (g.slot_allocate_frame i w hi).1] using this

end

/-- An allocation, up to its pressure sealing (R23, R39, R150, R151). -/
theorem State.allocateFor_eq (s : State) (i : Nat) (w : PageWrite) :
    s.allocateFor i w =
      ({ s with staging := s.staging.allocate i w, timer := s.timerAfterAllocation } : State).pressureSeal := by
  by_cases h : s.staging.count .filling = 0
  · have counts : ∀ interval, (startCount interval s.now).map (fun _ => s.now) = startCount interval s.now := by
      intro interval
      by_cases hz : interval = 0 <;> simp [startCount, hz]
    simp [State.allocateFor, State.timerAfterAllocation, h, State.startCounts, State.restartQuiet, State.withTimer,
      State.withStaging, Staging.allocate, counts]
  · simp [State.allocateFor, State.timerAfterAllocation, h, State.restartQuiet, State.withTimer, State.withStaging,
      Staging.allocate]

/-- With no fewer FREE slots than the low-water mark nothing is sealed (R24). -/
theorem State.pressureSeal_idle (s : State) (h : s.values.lowWater ≤ s.staging.count .free) : s.pressureSeal = s := by
  rw [State.pressureSeal, if_neg (Nat.not_lt.mpr h)]

/-- With fewer the oldest FILLING slot is sealed (R24, R152). -/
theorem State.pressureSeal_oldest (s : State) (k : Nat) (rest : List Nat) (h : s.staging.count .free < s.values.lowWater)
    (oldest : s.staging.fillingInOrder = k :: rest) : s.pressureSeal = s.withStagingReport (s.staging.sealSlot k) := by
  rw [State.pressureSeal, if_pos h, oldest]

section
variable (s : State) (c : Cycle) (w : PageWrite) (hc : s.port.cycle = some c) (write : c.isRead = false)
include hc write

/-- A write to a page with an open slot is taken into it (R22, R151). -/
theorem State.decideWrite_open (i : Nat) (found : s.staging.openSlot w.page = some i) :
    s.decideWrite w =
      { s with
        port := s.port.accepted c
        staging := s.staging.setSlot i ((s.staging.slot i).putAll w.bytes)
        timer := { s.timer with quiet := s.timer.quiet.map fun _ => s.now } } := by
  rw [State.decideWrite, found]
  exact (State.answer_write _ c [] (by simpa using hc) write).trans rfl

/-- A write to a page with no open slot is given the lowest FREE slot (R23). -/
theorem State.decideWrite_allocates (i : Nat) (closed : s.staging.openSlot w.page = none)
    (lowest : s.staging.lowestFree = some i) :
    s.decideWrite w =
      (({ s with staging := s.staging.allocate i w, timer := s.timerAfterAllocation } : State).pressureSeal).withPort
        (s.port.accepted c) := by
  rw [State.decideWrite, closed, lowest]
  simp only
  rw [State.answer_write _ c [] (by simpa using hc) write, State.allocateFor_port, State.allocateFor_eq]

/-- A write given a slot with no pressure on the slots left (R23, R24). -/
theorem State.decideWrite_allocates_unpressed (i : Nat) (closed : s.staging.openSlot w.page = none) (hi : i < 16)
    (free : (s.staging.slot i).state = .free) (lowest : ∀ k < i, (s.staging.slot k).state ≠ .free)
    (unpressed : s.values.lowWater < s.staging.count .free) :
    s.decideWrite w =
      { s with
        port := s.port.accepted c, staging := s.staging.allocate i w, timer := s.timerAfterAllocation } := by
  rw [s.decideWrite_allocates c w hc write i closed (s.staging.lowestFree_eq_some i hi free lowest), State.pressureSeal_idle]
  · rfl
  · have := s.staging.count_free_allocate i w hi free
    show s.values.lowWater ≤ (s.staging.allocate i w).count .free
    omega

end

/-! ## DATA_PHASE_START -/

theorem Values.isProtected_iff (v : Values) (sector : Nat) :
    v.isProtected sector = true ↔ ∃ r ∈ v.ranges, r.1 ≤ sector ∧ sector ≤ r.2 := by
  simp only [Values.isProtected, List.any_eq_true, Bool.and_eq_true, decide_eq_true_eq]

/-- A cycle c opened: HWAITn low until the checks decide it (R133). -/
def State.opened (s : State) (c : Cycle) : State :=
  { s with port := { s.port with cycle := some c, hwaitn := false } }

section
variable (hdir hlanen : Bool) (had : BitVec 16) (s : State) (running : s.inReset = false) (idle : s.port.cycle = none)
include running idle

/-- A data phase out of reset opens its cycle and checks it (R133). -/
theorem exec_dataPhaseStart : exec (.dataPhaseStart hdir hlanen had) s = .next
    (s.opened (s.openCycle hdir hlanen had)).applyChecks.closeStep := by
  show execDataPhaseStart hdir hlanen had s = _
  simp [execDataPhaseStart, running, idle, State.opened, State.withPort]

/-- A write let through in READY is decided against the slots (R137, R139, R140, R143). -/
theorem exec_dataPhaseStart_write (ready : s.ctl.mode = .ready) (named : (s.openCycle false hlanen had).bytes ≠ [])
    (allowed : s.writeAllowed (s.openCycle false hlanen had)) :
    exec (.dataPhaseStart false hlanen had) s = .next
      ((s.opened (s.openCycle false hlanen had)).decideWrite
        (pageWriteOf s.port.latched (s.openCycle false hlanen had).bytes)).closeStep := by
  obtain ⟨unlocked, unprotected⟩ := allowed
  have lock : (s.opened (s.openCycle false hlanen had)).lockRefuses (s.openCycle false hlanen had) = false := by
    rw [Bool.eq_false_iff]
    exact fun refused => unlocked (by simpa [State.lockRefuses, State.opened, inRecord, and_assoc] using refused)
  have ranges : (s.opened (s.openCycle false hlanen had)).rangeRefuses (s.openCycle false hlanen had) = false := by
    rw [Bool.eq_false_iff]
    intro refused
    simp only [State.rangeRefuses, Bool.and_eq_true, Bool.not_eq_true', Values.isProtected_iff] at refused
    exact unprotected refused
  have mode : (s.opened (s.openCycle false hlanen had)).ctl.mode = .ready := ready
  have write : (s.openCycle false hlanen had).isRead = false := rfl
  have cycle : (s.opened (s.openCycle false hlanen had)).port.cycle = some (s.openCycle false hlanen had) := rfl
  rw [exec_dataPhaseStart false hlanen had s running idle, State.applyChecks, cycle]
  simp only [mode, named, if_false, write, Bool.false_eq_true, State.checkWrite, lock, ranges]
  rfl

end

/-! ## Writes settled -/

/-- Settles O26: the write is let through and decided against its page's open slot. -/
theorem writeGoesIntoOpenSlot : Obligations.WriteGoesIntoOpenSlot := by
  intro hlanen had s i running idle ready named allowed found
  have hi : i < 16 := s.staging.lt_of_isOpen i (s.staging.openSlot_some _ i found).1
  have decided := State.decideWrite_open (s.opened (s.openCycle false hlanen had)) _
    (pageWriteOf s.port.latched (s.openCycle false hlanen had).bytes) rfl rfl i found
  refine ⟨_, (exec_dataPhaseStart_write hlanen had s running idle ready named allowed).trans (by rw [decided]), ?_⟩
  obtain ⟨state, page, rank⟩ :=
    (s.staging.slot i).putAll_frame (pageWriteOf s.port.latched (s.openCycle false hlanen had).bytes).bytes
  refine ⟨rfl, rfl, rfl, fun k _ hk => ?_, ?_⟩ <;> simp only [State.closeStep_staging, State.opened, Staging.slot_setSlot]
  · exact if_neg fun h => hk h.1.symm
  · simp only [hi, and_true, if_true]
    exact ⟨state, page, rank, fun o ho => Slot.cell_putAll_cycle _ _ _ _ _ o ho⟩

/-- Settles O27: the allocation leaves one FREE slot fewer, which is still no fewer than the low-water mark. -/
theorem writeAllocatesLowestFreeSlot : Obligations.WriteAllocatesLowestFreeSlot := by
  intro hlanen had s i running idle ready named allowed closed hi free lowest unpressed
  have decided := State.decideWrite_allocates_unpressed (s.opened (s.openCycle false hlanen had)) _
    (pageWriteOf s.port.latched (s.openCycle false hlanen had).bytes) rfl rfl i closed hi free lowest unpressed
  refine ⟨_, (exec_dataPhaseStart_write hlanen had s running idle ready named allowed).trans (by rw [decided]), ?_⟩
  obtain ⟨state, page, rank⟩ :=
    s.staging.slot_allocate_frame i (pageWriteOf s.port.latched (s.openCycle false hlanen had).bytes) hi
  simp only [State.closeStep_port, State.closeStep_staging, State.closeStep_timer, State.opened]
  refine ⟨rfl, rfl, fun h => ?_, fun h => ?_, fun k _ hk => s.staging.slot_allocate_other i _ k hk, state, page, rank,
    fun o ho => s.staging.cell_allocate_cycle i _ _ _ _ hi o ho⟩
  · simp only [State.timerAfterAllocation, h, if_true]
    exact ⟨rfl, rfl⟩
  · simp only [State.timerAfterAllocation, h, if_false]

/-- Settles O29: with neither an open nor a FREE slot the write can only wait. -/
theorem writeWaitsForSlot : Obligations.WriteWaitsForSlot := by
  intro hlanen had s running idle ready named allowed closed full
  have noOpen : (s.opened (s.openCycle false hlanen had)).staging.openSlot (pageOf s.port.latched) = none := closed
  have noFree : (s.opened (s.openCycle false hlanen had)).staging.lowestFree = none := s.staging.lowestFree_eq_none full
  rw [exec_dataPhaseStart_write hlanen had s running idle ready named allowed, State.decideWrite]
  simp only [pageWriteOf, noOpen, noFree]
  rfl

/-- Settles O36: the waiting write is decided as a new one is, and its last byte at an offset is the one that stays. -/
theorem waitingWriteTakenIntoFreedSlot : Obligations.WaitingWriteTakenIntoFreedSlot := by
  intro s w c i waiting cycle write closed hi free lowest unpressed
  have redecided : exec .waitingWriteRedecide s = .next (s.dropWaiting.decideWrite w).closeStep := by
    simp [exec, execWaitingWriteRedecide, waiting]
  have decided := State.decideWrite_allocates_unpressed s.dropWaiting c w cycle write i closed hi free lowest unpressed
  refine ⟨_, redecided.trans (by rw [decided]), ?_⟩
  obtain ⟨state, page, rank⟩ := s.dropWaiting.staging.slot_allocate_frame i w hi
  simp only [State.closeStep_port, State.closeStep_staging, State.closeStep_timer]
  refine ⟨rfl, rfl, rfl, rfl, fun k _ hk => s.dropWaiting.staging.slot_allocate_other i w k hk, state, page, rank,
    fun o ho => ?_⟩
  have cell := Slot.cell_putAll ((s.dropWaiting.staging.slot i).allocated w.page (s.dropWaiting.staging.count .filling + 1))
    w.bytes o ho
  rw [Slot.cell_allocated _ _ _ o ho, ← s.dropWaiting.staging.slot_allocate_self i w hi] at cell
  rw [Slot.byte]
  cases last : (w.bytes.filter fun b => b.1 == o).getLast? <;>
    · rw [last] at cell
      obtain ⟨data, written⟩ := Prod.mk.inj cell
      simp [data, written]

/-! ## Pressure sealing -/

/-- A slot read after the ranks above r have dropped by one (R18). -/
theorem Staging.slot_dropRanksAbove (g : Staging) (r k : Nat) :
    (g.dropRanksAbove r).slot k =
      { g.slot k with rank := (g.slot k).rank.map fun m => if r < m then m - 1 else m } := by
  by_cases hk : k < 16
  · simp [Staging.dropRanksAbove, Staging.slot, Config.slotCount, hk]
  · rw [slot_of_ge _ k (Nat.not_lt.mp hk), slot_of_ge _ k (Nat.not_lt.mp hk)]
    rfl

section
variable (g : Staging) (i r : Nat) (filling : (g.slot i).state = .filling) (ranked : (g.slot i).rank = some r)
include filling ranked

/-- A FILLING slot sealed: its rank is closed, and it stands at the queue's tail (R28). -/
theorem Staging.sealSlot_eq :
    g.sealSlot i =
      { (g.setSlot i { g.slot i with state := .sealed, rank := none }).dropRanksAbove r with queue := g.queue ++ [i] } := by
  rw [Staging.sealSlot, if_pos filling, ranked]
  rfl

theorem Staging.slot_sealSlot_self : (g.sealSlot i).slot i = { g.slot i with state := .sealed, rank := none } := by
  have hi : i < 16 := g.lt_of_not_free i (by simp [filling])
  rw [g.sealSlot_eq i r filling ranked]
  exact (Staging.slot_dropRanksAbove _ r i).trans (by rw [Staging.slot_setSlot, if_pos ⟨rfl, hi⟩]; rfl)

theorem Staging.slot_sealSlot_other (k : Nat) (hk : k ≠ i) :
    (g.sealSlot i).slot k = { g.slot k with rank := (g.slot k).rank.map fun m => if r < m then m - 1 else m } := by
  rw [g.sealSlot_eq i r filling ranked]
  exact (Staging.slot_dropRanksAbove _ r k).trans (by rw [Staging.slot_setSlot, if_neg fun h => hk h.1.symm])

theorem Staging.sealSlot_queue : (g.sealSlot i).queue = g.queue ++ [i] := by
  rw [g.sealSlot_eq i r filling ranked]

theorem Staging.sealSlot_waiting : (g.sealSlot i).waiting = g.waiting := by
  rw [g.sealSlot_eq i r filling ranked]
  rfl

theorem Staging.count_filling_sealSlot : (g.sealSlot i).count .filling + 1 = g.count .filling := by
  have hi : i < 16 := g.lt_of_not_free i (by simp [filling])
  have := g.count_of_one_changed (g.sealSlot i) i hi
    (fun k _ hk => by rw [g.slot_sealSlot_other i r filling ranked k hk]) .filling
  simpa [filling, g.slot_sealSlot_self i r filling ranked] using this

end

/-- The FILLING slot that every other one's rank stands above is the first in rank order (R18). -/
theorem Staging.fillingInOrder_oldest (g : Staging) (k : Nat) (filling : (g.slot k).state = .filling)
    (oldest : ∀ j, (g.slot j).state = .filling → j ≠ k → (g.slot k).rank.getD 0 < (g.slot j).rank.getD 0) :
    ∃ rest, g.fillingInOrder = k :: rest := by
  have sorted : g.fillingInOrder.Pairwise fun a b => (g.slot a).rank.getD 0 ≤ (g.slot b).rank.getD 0 :=
    pairwise_insertionSort_key (fun j => (g.slot j).rank.getD 0) _
  have mem : ∀ j, j ∈ g.fillingInOrder ↔ j < 16 ∧ (g.slot j).state = .filling := fun j => by
    simp [Staging.fillingInOrder, slotNumbers, Config.slotCount]
  have found : k ∈ g.fillingInOrder := (mem k).mpr ⟨g.lt_of_not_free k (by simp [filling]), filling⟩
  obtain ⟨first, rest, split⟩ := List.exists_cons_of_ne_nil (List.ne_nil_of_mem found)
  refine ⟨rest, ?_⟩
  by_cases same : first = k
  · rw [split, same]
  have above := oldest first ((mem first).mp (by simp [split])).2 same
  have least : (g.slot first).rank.getD 0 ≤ (g.slot k).rank.getD 0 := by
    rw [split, List.mem_cons] at found
    exact (List.pairwise_cons.mp (split ▸ sorted)).1 k (found.resolve_left (Ne.symm same))
  omega

section
variable {s : State} (law : s.StagingLaw) {i k : Nat} (w : PageWrite) (hi : i < 16) (free : (s.staging.slot i).state = .free)
  (oldest : (s.staging.count .filling = 0 ∧ k = i) ∨ (k < 16 ∧ (s.staging.slot k).rank = some 1))
include law hi free oldest

/-- The oldest FILLING slot is slot i itself exactly when there was none before it (R18, R24). -/
theorem State.StagingLaw.oldest_eq_iff : k = i ↔ s.staging.count .filling = 0 := by
  constructor
  · rintro rfl
    refine oldest.elim And.left fun h => ?_
    have := (law.rank k hi).mp (by simp [h.2])
    simp [free] at this
  · intro none
    refine oldest.elim And.right fun h => ?_
    have := law.rankBound k h.1 1 h.2
    omega

/-- After the allocation of slot i slot k is FILLING with rank 1. -/
theorem State.StagingLaw.oldest_allocate :
    ((s.staging.allocate i w).slot k).state = .filling ∧ ((s.staging.allocate i w).slot k).rank = some 1 := by
  by_cases hk : k = i
  · have none := (law.oldest_eq_iff hi free oldest).mp hk
    obtain ⟨state, -, rank⟩ := s.staging.slot_allocate_frame i w hi
    rw [hk, rank, none]
    exact ⟨state, rfl⟩
  · obtain ⟨lt, rank⟩ := oldest.resolve_left fun h => hk h.2
    rw [s.staging.slot_allocate_other i w k hk]
    exact ⟨(law.rank k lt).mp (by simp [rank]), rank⟩

/-- The ranks of the others are 2 and more. -/
theorem State.StagingLaw.others_above_oldest (j r : Nat) (hj : j ≠ k) (ranked : ((s.staging.allocate i w).slot j).rank = some r) :
    1 < r := by
  by_cases hji : j = i
  · have some_filling : s.staging.count .filling ≠ 0 := fun none =>
      hj (hji.trans ((law.oldest_eq_iff hi free oldest).mpr none).symm)
    rw [hji, (s.staging.slot_allocate_frame i w hi).2.2] at ranked
    obtain rfl := Option.some.inj ranked
    omega
  · rw [s.staging.slot_allocate_other i w j hji] at ranked
    have lt : j < 16 := by
      by_contra hge
      rw [s.staging.slot_of_ge j (Nat.not_lt.mp hge)] at ranked
      exact nomatch ranked
    obtain ⟨least, most⟩ := law.rankBound j lt r ranked
    obtain ⟨hk, rank⟩ := oldest.resolve_left fun h => by omega
    refine lt_of_le_of_ne least fun one => hj (law.rankOnce j lt k hk (by simp [ranked]) ?_)
    rw [ranked, rank, one]

/-- The sealing of slot k after the allocation of slot i leaves of every other slot's rank one less (R28). -/
theorem State.StagingLaw.slot_sealOldest (j : Nat) (hj : j ≠ k) :
    ((s.staging.allocate i w).sealSlot k).slot j =
      { (s.staging.allocate i w).slot j with rank := ((s.staging.allocate i w).slot j).rank.map (· - 1) } := by
  obtain ⟨filling, rank⟩ := law.oldest_allocate w hi free oldest
  rw [Staging.slot_sealSlot_other _ k 1 filling rank j hj]
  cases ranked : ((s.staging.allocate i w).slot j).rank with
  | none => rfl
  | some r => simp [law.others_above_oldest w hi free oldest j r hj ranked]

/-- The sealing of slot k leaves page, data bytes and written map of the slot allocated, be it slot k or another (R28). -/
theorem State.StagingLaw.slot_allocated_sealOldest :
    (((s.staging.allocate i w).sealSlot k).slot i).page = ((s.staging.allocate i w).slot i).page ∧
      (((s.staging.allocate i w).sealSlot k).slot i).data = ((s.staging.allocate i w).slot i).data ∧
      (((s.staging.allocate i w).sealSlot k).slot i).written = ((s.staging.allocate i w).slot i).written := by
  obtain ⟨filling, rank⟩ := law.oldest_allocate w hi free oldest
  by_cases hk : k = i
  · rw [hk] at filling rank ⊢
    rw [Staging.slot_sealSlot_self _ i 1 filling rank]
    exact ⟨rfl, rfl, rfl⟩
  · rw [law.slot_sealOldest w hi free oldest i (Ne.symm hk)]
    exact ⟨rfl, rfl, rfl⟩

/-- After the allocation of slot i slot k is the first FILLING slot in rank order. -/
theorem State.StagingLaw.fillingInOrder_allocate : ∃ rest, (s.staging.allocate i w).fillingInOrder = k :: rest := by
  obtain ⟨filling, rank⟩ := law.oldest_allocate w hi free oldest
  refine Staging.fillingInOrder_oldest _ k filling fun j hj hjk => ?_
  cases ranked : ((s.staging.allocate i w).slot j).rank with
  | some r => simpa [rank] using law.others_above_oldest w hi free oldest j r hjk ranked
  | none =>
    by_cases hji : j = i
    · rw [hji, (s.staging.slot_allocate_frame i w hi).2.2] at ranked
      exact nomatch ranked
    · rw [s.staging.slot_allocate_other i w j hji] at hj ranked
      have := (law.rank j (s.staging.lt_of_not_free j (by simp [hj]))).mpr hj
      simp [ranked] at this

/-- A write given a slot under pressure: the oldest FILLING slot is sealed, and both counts stop if it was the only one (R23, R24,
R152). -/
theorem State.StagingLaw.decideWrite_allocates_pressed (c : Cycle) (hc : s.port.cycle = some c) (write : c.isRead = false)
    (closed : s.staging.openSlot w.page = none) (lowest : ∀ n < i, (s.staging.slot n).state ≠ .free)
    (pressed : s.staging.count .free ≤ s.values.lowWater) :
    s.decideWrite w =
      { s with
        port := s.port.accepted c
        staging := (s.staging.allocate i w).sealSlot k
        timer := if k = i then .stopped else s.timerAfterAllocation } := by
  obtain ⟨filling, rank⟩ := law.oldest_allocate w hi free oldest
  obtain ⟨rest, first⟩ := law.fillingInOrder_allocate w hi free oldest
  have fewer := s.staging.count_free_allocate i w hi free
  have more := s.staging.count_filling_allocate i w hi free
  have sealed := Staging.count_filling_sealSlot _ k 1 filling rank
  have last : (s.staging.allocate i w).count .filling ≠ 0 ∧ ((s.staging.allocate i w).sealSlot k).count .filling = 0 ↔
      k = i := by
    rw [law.oldest_eq_iff hi free oldest]
    omega
  have seals := State.pressureSeal_oldest { s with staging := s.staging.allocate i w, timer := s.timerAfterAllocation } k rest
    (show (s.staging.allocate i w).count .free < s.values.lowWater by omega) first
  rw [s.decideWrite_allocates c w hc write i closed (s.staging.lowestFree_eq_some i hi free lowest), seals,
    State.withStagingReport_eq]
  simp only [last]
  rfl

end

/-- Settles O28: the slot allocated counts among the FILLING ones when the oldest is sealed, so that it is sealed itself when
there was none before it. -/
theorem pressureSealsOldestSlot : Obligations.PressureSealsOldestSlot := by
  intro hlanen had s i k law running idle ready named allowed closed hi free lowest pressed oldest
  have openedLaw : (s.opened (s.openCycle false hlanen had)).StagingLaw := law.congr rfl rfl rfl
  have decided := openedLaw.decideWrite_allocates_pressed
    (pageWriteOf s.port.latched (s.openCycle false hlanen had).bytes) hi free oldest _ rfl rfl closed lowest pressed
  refine ⟨_, (exec_dataPhaseStart_write hlanen had s running idle ready named allowed).trans (by rw [decided]), ?_⟩
  have none_iff := law.oldest_eq_iff hi free oldest
  have kept := fun w => s.staging.slot_allocate_other i w
  have other := fun w => law.slot_sealOldest w hi free oldest
  obtain ⟨filling, rank⟩ := law.oldest_allocate (pageWriteOf s.port.latched (s.openCycle false hlanen had).bytes) hi free oldest
  obtain ⟨stateI, pageI, rankI⟩ :=
    s.staging.slot_allocate_frame i (pageWriteOf s.port.latched (s.openCycle false hlanen had).bytes) hi
  obtain ⟨samePage, sameData, sameWritten⟩ :=
    law.slot_allocated_sealOldest (pageWriteOf s.port.latched (s.openCycle false hlanen had).bytes) hi free oldest
  have slotK := Staging.slot_sealSlot_self _ k 1 filling rank
  refine ⟨rfl, rfl, Staging.sealSlot_queue _ k 1 filling rank, Staging.sealSlot_waiting _ k 1 filling rank, ?_, ?_,
      fun hk => ⟨?_, ?_, ?_, ?_⟩, fun hk => ?_, samePage.trans pageI, fun o ho => ?_, fun n _ hni hnk => ?_⟩ <;>
    simp only [State.closeStep_staging, State.closeStep_timer, State.opened]
  · rw [slotK]
  · rw [slotK]
  · rw [other _ i (Ne.symm hk)]
    exact stateI
  · rw [other _ i (Ne.symm hk)]
    exact congrArg (Option.map (· - 1)) rankI
  · rw [slotK, kept _ k hk]
  · have some_filling : s.staging.count .filling ≠ 0 := fun none => hk (none_iff.mpr none)
    simp only [hk, if_false, State.timerAfterAllocation, some_filling]
  · simp only [hk, if_true]
    rfl
  · rw [sameData, sameWritten]
    exact s.staging.cell_allocate_cycle i _ _ _ _ hi o ho
  · rw [other _ n hnk, kept _ n hni]

end Sys2Proof.Machine
end

section
namespace Sys2Proof.Machine

/-! ## The read merge -/

/-- The open slot of a page is unique (R20). -/
theorem State.StagingLaw.openSlot_eq {s : State} (law : s.StagingLaw) {i page : Nat} (isOpen : (s.staging.slot i).isOpen = true)
    (hp : (s.staging.slot i).page = some page) : s.staging.openSlot page = some i := by
  cases found : s.staging.openSlot page with
  | none => exact absurd hp (s.staging.openSlot_none page found i isOpen)
  | some k =>
    obtain ⟨openK, pageK⟩ := s.staging.openSlot_some page k found
    rw [law.openOnce k (s.staging.lt_of_isOpen k openK) i (s.staging.lt_of_isOpen i isOpen) openK isOpen (pageK.trans hp.symm)]

/-- The COMMITTING slot of a page is unique (R20). -/
theorem State.StagingLaw.committingSlot_eq {s : State} (law : s.StagingLaw) {i page : Nat}
    (committing : (s.staging.slot i).state = .committing) (hp : (s.staging.slot i).page = some page) :
    s.staging.committingSlot page = some i := by
  cases found : s.staging.committingSlot page with
  | none => exact absurd found (s.staging.committingSlot_ne_none page i committing hp)
  | some k =>
    obtain ⟨stateK, pageK⟩ := s.staging.committingSlot_some page k found
    rw [law.committingOnce k (s.staging.lt_of_not_free k (by simp [stateK])) i (s.staging.lt_of_not_free i (by simp [committing]))
      stateK committing (pageK.trans hp.symm)]

/-- Settles O30: both layers' slots are the page's only ones, and the COMMITTING one is asked when the open one gives nothing. -/
theorem openSlotSuppliesByteFirst : Obligations.OpenSlotSuppliesByteFirst := by
  intro s page offset i v law hi hp hv
  refine ⟨fun isOpen => ?_, fun committing noOpen => ?_⟩
  · simp [Staging.layeredByte, law.openSlot_eq isOpen hp, hv]
  · have nothing : ((s.staging.openSlot page).bind fun k => (s.staging.slot k).byte offset) = none := by
      cases found : s.staging.openSlot page with
      | none => rfl
      | some k =>
        obtain ⟨openK, pageK⟩ := s.staging.openSlot_some page k found
        exact noOpen k (s.staging.lt_of_isOpen k openK) openK pageK
    simp [Staging.layeredByte, nothing, law.committingSlot_eq committing hp, hv]

/-! ## Reads presented -/

/-- A read of one byte drives it on its lane, 0xFF on the other (R136). -/
theorem laneValue_one (b : CycleByte) (v : Byte) (lane : Lane) : laneValue [b] [v] lane = if b.lane = lane then v else 0xFF := by
  by_cases h : b.lane = lane <;> simp [laneValue, h]

/-- A read of two bytes drives each on its lane (R136). -/
theorem laneValue_two (b0 b1 : CycleByte) (v0 v1 : Byte) (low : b0.lane = .low) (high : b1.lane = .high) :
    laneValue [b0, b1] [v0, v1] .low = v0 ∧ laneValue [b0, b1] [v0, v1] .high = v1 := by
  simp [laneValue, low, high]

/-- Each byte of a cycle is driven on its lane (R134, R135, R136). -/
theorem laneValue_cycleBytes (wide hlanen : Bool) (a : LogAddr) (had : BitVec 16) (f : CycleByte → Byte) (b : CycleByte)
    (hb : b ∈ cycleBytes wide hlanen a had) :
    laneValue (cycleBytes wide hlanen a had) ((cycleBytes wide hlanen a had).map f) b.lane = f b := by
  rcases cycleBytes_cases wide hlanen a had with h | ⟨b0, h⟩ | ⟨b0, b1, h, low, high, -⟩ <;> rw [h] at hb ⊢
  · exact nomatch hb
  · obtain rfl := List.mem_singleton.mp hb
    simp [laneValue_one]
  · obtain ⟨drivenLow, drivenHigh⟩ := laneValue_two b0 b1 (f b0) (f b1) low high
    rcases List.mem_pair.mp hb with rfl | rfl
    · rw [low]; exact drivenLow
    · rw [high]; exact drivenHigh

/-- A lane with no byte is driven 0xFF (R136). -/
theorem laneValue_absent (bytes : List CycleByte) (values : List Byte) (lane : Lane) (absent : ∀ b ∈ bytes, b.lane ≠ lane) :
    laneValue bytes values lane = 0xFF := by
  have nothing : ((bytes.zip values).find? fun p => p.1.lane == lane) = none := by
    rw [List.find?_eq_none]
    intro p hp
    simpa using absent p.1 (List.of_mem_zip hp).1
  rw [laneValue, nothing]

/-- The normal answer to a read cycle c in progress (R136, R145). -/
theorem State.answer_read (s : State) (c : Cycle) (values : List Byte) (hc : s.port.cycle = some c) (read : c.isRead = true) :
    s.answer values =
      { s with
        port :=
          { s.port with
            cycle := some { c with cond := .answered }
            hwaitn := true
            hadLow := some (laneValue c.bytes values .low)
            hadHigh := if s.ctl.wide then some (laneValue c.bytes values .high) else s.port.hadHigh } } := by
  simp [State.answer, HostPort.answer, hc, read, State.withPort]

/-- The offsets that no slot supplies, the slot values being taken byte by byte (R37, R38). -/
theorem missingOffsets_map (bytes : List CycleByte) (f : CycleByte → Option Byte) :
    missingOffsets bytes (bytes.map f) = (bytes.filter fun b => (f b).isNone).map fun b => offsetOf b.addr := by
  induction bytes with
  | nil => rfl
  | cons b bytes ih => cases h : f b <;> simpa [missingOffsets, h] using ih

/-- The value that slots supply for a byte of a cycle (R36). -/
def State.supplied (s : State) (b : CycleByte) : Option Byte :=
  s.staging.layeredByte (pageOf b.addr) (offsetOf b.addr)

/-- What a lane is driven with when cycle c is a read that slots supply (R36, R136). -/
def State.suppliedLane (s : State) (c : Cycle) (lane : Lane) : Byte :=
  laneValue c.bytes (c.bytes.map fun b => (s.supplied b).getD 0xFF) lane

/-- The run of a read from the first offset that no slot supplies, over as many bytes as are missing (R38). -/
def Cycle.runFrom (c : Cycle) (offset more : Nat) : Run :=
  { page := pageOf c.addr, offset := offset, len := more + 1, committed := false, discard := false }

section
variable (hlanen : Bool) (had : BitVec 16) (s : State) (running : s.inReset = false) (idle : s.port.cycle = none)
  (mode : s.ctl.mode = .ready ∨ s.ctl.mode = .readOnly ∨ s.ctl.mode = .drain)
include running idle mode

/-- A read that names a byte is presented to the read service in READY, READ_ONLY and DRAIN (R137, R144). -/
theorem exec_dataPhaseStart_read (named : (s.openCycle true hlanen had).bytes ≠ []) :
    exec (.dataPhaseStart true hlanen had) s = .next
      ((s.opened (s.openCycle true hlanen had)).presentRead (s.openCycle true hlanen had)).closeStep := by
  have cycle : (s.opened (s.openCycle true hlanen had)).port.cycle = some (s.openCycle true hlanen had) := rfl
  have read : (s.openCycle true hlanen had).isRead = true := rfl
  have sameMode : (s.opened (s.openCycle true hlanen had)).ctl.mode = s.ctl.mode := rfl
  rw [exec_dataPhaseStart true hlanen had s running idle, State.applyChecks, cycle]
  rcases mode with mode | mode | mode <;> simp [sameMode, mode, named, read]

/-- A read whose bytes slots supply is answered with them (R37). -/
theorem exec_dataPhaseStart_supplied (named : (s.openCycle true hlanen had).bytes ≠ [])
    (supplied : ∀ b ∈ (s.openCycle true hlanen had).bytes, s.supplied b ≠ none) :
    exec (.dataPhaseStart true hlanen had) s = .next
      ((s.opened (s.openCycle true hlanen had)).answer
        ((s.openCycle true hlanen had).bytes.map fun b => (s.supplied b).getD 0xFF)).closeStep := by
  have taken : (s.opened (s.openCycle true hlanen had)).takenBytes (s.openCycle true hlanen had) =
      (s.openCycle true hlanen had).bytes.map s.supplied := rfl
  have nothing : missingOffsets (s.openCycle true hlanen had).bytes ((s.openCycle true hlanen had).bytes.map s.supplied) = [] := by
    simpa [missingOffsets_map, Option.isNone_iff_eq_none] using supplied
  rw [exec_dataPhaseStart_read hlanen had s running idle mode named, State.presentRead]
  simp only [taken, nothing, List.map_map]
  rfl

/-- A read with bytes that no slot supplies is held with the slot bytes taken, and one run over the others requested (R37, R38). -/
theorem exec_dataPhaseStart_missing (offset : Nat) (more : List Nat)
    (missing : ((s.openCycle true hlanen had).bytes.filter fun b => (s.supplied b).isNone).map (fun b => offsetOf b.addr) =
      offset :: more) :
    exec (.dataPhaseStart true hlanen had) s = .next
      ((s.opened
        { s.openCycle true hlanen had with
          cond := .readWaiting, taken := (s.openCycle true hlanen had).bytes.map s.supplied }).requestRun
          ((s.openCycle true hlanen had).runFrom offset more.length)).closeStep := by
  have named : (s.openCycle true hlanen had).bytes ≠ [] := fun h => by simp [h] at missing
  have taken : (s.opened (s.openCycle true hlanen had)).takenBytes (s.openCycle true hlanen had) =
      (s.openCycle true hlanen had).bytes.map s.supplied := rfl
  rw [exec_dataPhaseStart_read hlanen had s running idle mode named, State.presentRead]
  simp only [taken, missingOffsets_map, missing]
  rfl

end

/-- Settles O31: the values taken are those that slots supply, and the lanes drive them. -/
theorem readAnsweredFromSlots : Obligations.ReadAnsweredFromSlots := by
  intro hlanen had s running idle mode named supplied
  refine ⟨s.suppliedLane (s.openCycle true hlanen had) .low, s.suppliedLane (s.openCycle true hlanen had) .high, ?_,
    fun b hb => ?_, laneValue_absent _ _ .low, laneValue_absent _ _ .high⟩
  · rw [exec_dataPhaseStart_supplied hlanen had s running idle mode named supplied, State.answer_read _ _ _ rfl rfl]
    rfl
  · obtain ⟨v, hv⟩ := Option.ne_none_iff_exists'.mp (supplied b hb)
    have driven : s.suppliedLane (s.openCycle true hlanen had) b.lane = (s.supplied b).getD 0xFF :=
      laneValue_cycleBytes _ _ _ _ (fun b => (s.supplied b).getD 0xFF) b hb
    rw [State.supplied, hv, Option.getD_some] at driven
    rw [hv, ← driven]
    cases b.lane <;> rfl

/-- A run requested while another is outstanding or in progress is held back (R117). -/
theorem State.requestRun_busy (s : State) (r : Run) (busy : s.link.runBusy = true) :
    s.requestRun r = { s with heldRun := some r } := by
  rw [State.requestRun, if_pos busy]
  rfl

/-- A run requested with no erase to suspend stands outstanding (R38). -/
theorem State.requestRun_stands (s : State) (r : Run) (quiet : s.link.runBusy = false) (guarded : s.guardPassed = false) :
    s.requestRun r =
      { s with link := { s.link with requests := { s.link.requests with hostRead := some r } } } := by
  have guarded' : (s.withRequests { s.link.requests with hostRead := some r }).guardPassed = false := guarded
  rw [State.requestRun, if_neg (by simp [quiet]), State.trySuspend, if_neg (by simp [guarded'])]
  rfl

/-- A run requested while an erase runs past its guard suspends the erase at once (R117, R118, R119). -/
theorem State.requestRun_suspends (s : State) (r : Run) (e : EraseRecord) (quiet : s.link.runBusy = false)
    (passed : s.guardPassed = true) (erasing : s.link.erasing = some e) :
    s.requestRun r =
      { s with
        link :=
          { s.link with
            erasing := some { e with accrued := e.accrued + (s.now - e.since), progress := .suspending s.now }
            requests := { s.link.requests with hostRead := some { r with committed := true } } }
        wire := s.wire ++ [.suspend, .poll] } := by
  have passed' : (s.withRequests { s.link.requests with hostRead := some r }).guardPassed = true := passed
  rw [State.requestRun, if_neg (by simp [quiet]), State.trySuspend, if_pos ⟨rfl, passed'⟩]
  simp [State.suspendErase, erasing, State.withRequests, State.withErasing, State.withLink, State.drive,
    EraseRecord.runningTime]

/-- Settles O32: the run's request is held back behind a run still busy, stands, or suspends the erase in progress. -/
theorem readRequestsFlashRun : Obligations.ReadRequestsFlashRun := by
  intro hlanen had s offset more running idle mode missing
  have requested := exec_dataPhaseStart_missing hlanen had s running idle mode offset more missing
  refine ⟨fun guarded => ?_, fun user p x e op erasing progress passed noRun => ?_⟩ <;> rw [requested]
  · cases busy : s.link.runBusy with
    | true => exact congrArg (fun t => Host.Outcome.next t.closeStep) (State.requestRun_busy (s.opened _) _ busy)
    | false => exact congrArg (fun t => Host.Outcome.next t.closeStep) (State.requestRun_stands (s.opened _) _ busy guarded)
  · have quiet : s.link.runBusy = false := by simp [Link.runBusy, op, noRun]
    have guard : s.guardPassed = true := by simp [State.guardPassed, op, erasing, progress, passed]
    exact congrArg (fun t => Host.Outcome.next t.closeStep)
      (State.requestRun_suspends (s.opened _) _ e quiet guard erasing)

/-! ## The end of a run -/

/-- A run's end hands its bytes to the read that waits for them (R38, R136). -/
theorem State.handOver_waiting (s : State) (c : Cycle) (fetched : List Byte) (hc : s.port.cycle = some c)
    (waits : c.cond = .readWaiting) : s.handOver fetched = s.answer (fillTaken c.taken fetched) := by
  simp [State.handOver, hc, waits]

/-- With no erase suspended there is no suspension to end (R120). -/
theorem State.tryResume_unsuspended (s : State) (h : s.link.suspended = false) : s.tryResume = s := by
  unfold State.tryResume
  split
  · rename_i e _ _ erasing _ _
    rw [if_neg]
    simpa [Link.suspended, erasing] using h
  · rfl

/-- While a host read run is outstanding a suspension goes on (R120). -/
theorem State.tryResume_outstanding (s : State) (h : s.link.requests.hostRead ≠ none) : s.tryResume = s := by
  unfold State.tryResume
  split
  · rename_i none_outstanding
    exact absurd none_outstanding h
  · rfl

/-- With no run in progress or outstanding the suspension ends: the stream closed, RESUME issued (R120). -/
theorem State.tryResume_suspended (s : State) (e : EraseRecord) (erasing : s.link.erasing = some e)
    (suspended : e.progress = .suspended) (idle : s.link.op = none) (noRun : s.link.requests.hostRead = none) :
    s.tryResume =
      { s with
        link :=
          { s.link with
            stream := none
            op := some { user := e.user, op := .erase e.sector, stage := .polling e.since }
            erasing := some { e with progress := .resuming s.now } }
        wire := s.wire ++ ((if s.link.stream.isSome then [.closeStream] else []) ++ [.resume, .poll]) } := by
  simp [State.tryResume, erasing, suspended, idle, noRun, State.closeStream_eq, State.drive, State.setOp, State.withOp,
    State.withErasing, State.withLink]

/-- s with its run r ended: no operation in progress, the stream open after the run's bytes, the port as given (R122). -/
def State.runEnded (s : State) (r : Run) (addr : Nat) (port : HostPort) : State :=
  { s with port := port, link := { s.link with op := none, stream := some ((addr + r.len) % flashBytes) } }

/-- What a run's end does to the port: nothing for a discarded run, else the answer of the waiting read (R38, R117, R136). -/
def State.portAfterRun (s : State) (r : Run) (bytes : List Byte) : HostPort :=
  if r.discard then s.port else (s.handOver bytes).port

/-- A run's bytes handed over or discarded, the run having ended (R38, R117, R122). -/
theorem State.handOver_runEnded (s : State) (r : Run) (addr : Nat) (bytes : List Byte) :
    (if r.discard then s.runEnded r addr s.port else (s.runEnded r addr s.port).handOver bytes) =
      s.runEnded r addr (s.portAfterRun r bytes) := by
  cases discard : r.discard with
  | true => simp [State.portAfterRun, discard]
  | false =>
    cases cycle : s.port.cycle with
    | none => simp [State.portAfterRun, discard, State.handOver, State.runEnded, cycle]
    | some c =>
      by_cases waits : c.cond = .readWaiting <;>
        simp [State.portAfterRun, discard, State.handOver, State.runEnded, cycle, waits, State.answer, State.withPort]

/-- A run held back is requested now (R117). -/
def State.requestHeld (s : State) : State :=
  match s.heldRun with
  | some q => (s.withHeldRun none).requestRun q
  | none => s

theorem State.requestHeld_none (s : State) (unheld : s.heldRun = none) : s.requestHeld = s := by
  rw [State.requestHeld, unheld]

theorem State.requestHeld_some (s : State) (q : Run) (held : s.heldRun = some q) :
    s.requestHeld = (s.withHeldRun none).requestRun q := by
  rw [State.requestHeld, held]

/-- A run's end: its bytes handed over or discarded, a held-back run requested, a suspension with none left ended (R38, R117, R120,
R122). -/
theorem exec_hostReadRunEnd (s : State) (r : Run) (addr : Nat) (bytes : List Byte)
    (op : s.link.op = some { user := .readService, op := .hostRun r addr, stage := .reading }) (whole : bytes.length = r.len) :
    exec (.hostReadRunEnd bytes) s = .next
      (s.runEnded r addr (s.portAfterRun r bytes)).requestHeld.tryResume.closeStep := by
  have ended : s.withLink { s.link with op := none, stream := some ((addr + r.len) % flashBytes) } = s.runEnded r addr s.port :=
    rfl
  simp only [exec, execHostReadRunEnd, op, whole, if_true, ended, s.handOver_runEnded r addr bytes]
  rfl

/-- The port after the end of the run that a read waits for (R38, R136). -/
theorem State.portAfterRun_waiting (s : State) (r : Run) (bytes : List Byte) (c : Cycle) (kept : r.discard = false)
    (cycle : s.port.cycle = some c) (waits : c.cond = .readWaiting) (read : c.isRead = true) :
    s.portAfterRun r bytes =
      { s.port with
        cycle := some { c with cond := .answered }
        hwaitn := true
        hadLow := some (laneValue c.bytes (fillTaken c.taken bytes) .low)
        hadHigh := if s.ctl.wide then some (laneValue c.bytes (fillTaken c.taken bytes) .high) else s.port.hadHigh } := by
  rw [State.portAfterRun, if_neg (by simp [kept]), s.handOver_waiting c bytes cycle waits, s.answer_read c _ cycle read]

/-- Settles O50: the answer puts the fetched bytes in the places that no slot supplied; what follows it is the request of the run
held back, or the end of the suspension, or neither. -/
theorem runEndAnswersRead : Obligations.RunEndAnswersRead := by
  intro s r addr port bytes op whole answers
  have combined : s.portAfterRun r bytes = port := by
    rcases answers with ⟨discard, rfl⟩ | ⟨kept, c, low, high, cycle, waits, read, rfl, lanes⟩
    · rw [State.portAfterRun, if_pos discard]
    have driven : laneValue c.bytes (fillTaken c.taken bytes) .low = low ∧
        laneValue c.bytes (fillTaken c.taken bytes) .high = high := by
      rcases lanes with ⟨b, v, one, taken, rfl, lane⟩ | ⟨b0, b1, x, y, two, low0, high1, taken, fetched⟩
      · rw [one, taken]
        rcases lane with ⟨lane, rfl, rfl⟩ | ⟨lane, rfl, rfl⟩ <;> simp [fillTaken, laneValue_one, lane]
      · have filled : fillTaken c.taken bytes = [low, high] := by
          rcases fetched with ⟨rfl, rfl, rfl⟩ | ⟨rfl, rfl, rfl⟩ | ⟨rfl, rfl, rfl⟩ <;> rw [taken] <;> rfl
        rw [two, filled]
        exact laneValue_two b0 b1 low high low0 high1
    rw [s.portAfterRun_waiting r bytes c kept cycle waits read, driven.1, driven.2]
  refine ⟨fun unheld unsuspended => ?_, fun q held noRun => ?_, fun e unheld erasing suspended noRun => ?_⟩ <;>
    rw [exec_hostReadRunEnd s r addr bytes op whole, combined]
  · rw [State.requestHeld_none (s.runEnded r addr port) unheld, State.tryResume_unsuspended _ (by exact unsuspended)]
    rfl
  · rw [State.requestHeld_some (s.runEnded r addr port) q held,
      State.requestRun_stands _ q (by simp [Link.runBusy, State.runEnded, noRun]) (by simp [State.guardPassed, State.runEnded]),
      State.tryResume_outstanding _ (Option.some_ne_none q)]
    rfl
  · rw [State.requestHeld_none (s.runEnded r addr port) unheld,
      State.tryResume_suspended (s.runEnded r addr port) e erasing suspended rfl noRun]
    rfl

end Sys2Proof.Machine
end

section
namespace Sys2Proof.Machine

/-! ## COMMIT_TAKE -/

/-- Settles O51: the take is due, and `State.takeJob_jobTaken` says all that it does. -/
theorem takeFormsJobOfOneSector : Obligations.TakeFormsJobOfOneSector := by
  intro s law idle mode queued
  have due : s.takeDue = true := s.takeDue_iff.mpr ⟨idle, mode, queued⟩
  refine ⟨s.takeJob, ?_, s.takeJob_jobTaken law idle mode⟩
  show execCommitTake s = _
  rw [execCommitTake, if_pos due]

end Sys2Proof.Machine
end

section
namespace Sys2Proof.Machine

/-! ## Compatible bytes -/

theorem compatible_iff (new old : Byte) : compatible new old = true ↔ new &&& old = new := by
  simp [compatible]

/-- Settles O15: a bit of `new &&& old` is the bit of `new` unless it is set in `new` and zero in `old`. -/
theorem compatibleClearsBitsOnly : Obligations.CompatibleClearsBitsOnly := by
  intro new old
  refine ⟨compatible_iff new old, (compatible_iff new old).trans ⟨fun same i _ zero => ?_, fun clears => ?_⟩⟩
  · rw [← same, BitVec.getLsbD_and, zero, Bool.and_false]
  · refine BitVec.eq_of_getLsbD_eq fun i hi => ?_
    have := clears i hi
    cases hold : old.getLsbD i <;> simp_all

/-! ## The slot of a job's page -/

/-- With one slot to a page, the slot found for a page is the one that holds it (R31, R44). -/
theorem State.jobSlot_eq_some (s : State) (j : Job) (once : s.onePerPage j) (k i : Nat) :
    s.jobSlot j k = some i ↔ s.holdsPage j k i := by
  have found : ∀ n, s.jobSlot j k = some n → s.holdsPage j k n := fun n h => by
    rw [State.jobSlot] at h
    exact ⟨List.mem_of_find?_eq_some h, by simpa [pageInSector] using List.find?_some h⟩
  refine ⟨found i, fun holds => ?_⟩
  obtain ⟨n, hn⟩ := Option.isSome_iff_exists.mp ((s.jobSlot_isSome j k).mpr ⟨i, holds⟩)
  rw [hn, once n (found n hn).1 i holds.1 ((found n hn).2.trans holds.2.symm)]

/-- No job page follows exactly when the job has no slot for one (R48, R50). -/
theorem State.nextJobPage_eq_none (s : State) (j : Job) (k : Nat) : s.nextJobPage j k = none ↔ s.noPage j k := by
  simp only [State.nextJobPage, List.find?_eq_none, List.mem_range, Bool.and_eq_true, decide_eq_true_eq,
    State.jobSlot_isSome, not_and, not_exists]
  exact forall_congr' fun q => forall_comm

/-- The merged image takes a byte from the page's slot where it is present there, else from the page read (R46). -/
theorem State.mergedImage_merged (s : State) (j : Job) (k : Nat) (bytes : List Byte) (once : s.onePerPage j)
    (whole : bytes.length = 256) : s.Merged j k bytes (s.mergedImage j k bytes) := by
  cases slot : s.jobSlot j k with
  | none =>
    have absent : ∀ i, ¬s.holdsPage j k i := fun i holds => by
      rw [(s.jobSlot_eq_some j once k i).mpr holds] at slot
      cases slot
    rw [State.mergedImage, slot]
    exact ⟨whole, fun i _ _ _ holds => absurd holds (absent i), fun _ _ _ => rfl⟩
  | some n =>
    have holder : ∀ i, s.holdsPage j k i ↔ i = n := fun i => by
      rw [← s.jobSlot_eq_some j once, slot, Option.some.injEq, eq_comm]
    have laid : ∀ o < 256, (s.mergedImage j k bytes)[o]? = bytes[o]?.map (((s.staging.slot n).byte o).getD ·) := fun o ho => by
      simp [State.mergedImage, slot, List.getElem?_zipIdx, Option.map_map, Function.comp_def]
    refine ⟨by simp [State.mergedImage, slot, whole], fun i o v ho holds present => ?_, fun o ho absent => ?_⟩
    · obtain rfl := (holder i).mp holds
      simp [laid o ho, present, List.getElem?_eq_getElem (whole.symm ▸ ho)]
    · simp [laid o ho, absent n ((holder n).mpr rfl)]

/-- The page is compatible when each byte present in its slot is compatible with the byte read (R48, R49). -/
theorem State.pageCompatible_iff (s : State) (j : Job) (k : Nat) (bytes : List Byte) (once : s.onePerPage j)
    (whole : bytes.length = 256) :
    s.pageCompatible j k bytes = true ↔
      ∀ i o v w, o < 256 → s.holdsPage j k i → (s.staging.slot i).byte o = some v → bytes[o]? = some w → v &&& w = v := by
  simp only [← s.jobSlot_eq_some j once, State.pageCompatible]
  cases s.jobSlot j k with
  | none => simp
  | some n =>
    simp only [List.all_eq_true, Option.some.injEq]
    constructor
    · rintro all _ o v w - rfl present read
      have := all (w, o) (List.mem_zipIdx_iff_getElem?.mpr read)
      rwa [present, compatible_iff] at this
    · rintro fits ⟨w, o⟩ mem
      have read : bytes[o]? = some w := List.mem_zipIdx_iff_getElem?.mp mem
      have inPage : o < 256 := whole ▸ (List.getElem?_eq_some_iff.mp read).1
      cases present : (s.staging.slot n).byte o with
      | none => rfl
      | some v => exact (compatible_iff v w).mpr (fits n o v w inPage rfl present read)

/-- A page is left out of a copy exactly when its image has no byte but 0xFF (R56). -/
theorem allErased_iff (bytes : List Byte) : allErased bytes = true ↔ ∀ v ∈ bytes, v = 0xFF := by
  simp [allErased]

/-! ## The engine's next operation -/

/-- On a free link the read of the page at the cursor is what the engine asks for (R46, R114). -/
theorem State.readSource_eq (s : State) (j : Job) (free : s.link.op = none) :
    s.readSource j = s.engineAsks j s.engine.workPage (.pageRead (j.source * 4096 + j.cursor * 256)) := by
  simp [State.readSource, State.engineAsks, State.requestCommit, State.withRequests, State.withLink, State.withJob,
    State.withEngine, physAddr, free]

/-- On a free link an operation asked for with the job at hand (R114). -/
theorem State.requestCommit_eq (s : State) (j : Job) (o : FlashOp) (hj : s.engine.job = some j) (free : s.link.op = none) :
    s.requestCommit .commitEngine o = s.engineAsks j s.engine.workPage o := by
  simp [State.engineAsks, State.requestCommit, State.withRequests, State.withLink, free, ← hj]

/-- The address of the page at the cursor lies in the sector that the job writes (R50, R51, R56). -/
theorem Job.pageAddr_eq (j : Job) (sector : Nat)
    (written : j.kind = .inPlace ∧ sector = j.source ∨ j.kind = .relocate ∧ j.target = some sector) :
    j.pageAddr = sector * 4096 + j.cursor * 256 := by
  rcases written with ⟨kind, rfl⟩ | ⟨kind, target⟩ <;> simp [Job.pageAddr, physAddr, *]

/-! ## Requests of a job -/

/-- A job replaced by one that holds the same slots, and is not left waiting for the RETIRE of its source (R44). -/
theorem State.StagingLaw.sameSlots {s t : State} (law : s.StagingLaw) {j k : Job} (hj : s.engine.job = some j)
    (staging : t.staging = s.staging) (hk : t.engine.job = some k) (slots : k.slots = j.slots)
    (awaited : k.awaited ≠ some .retireSource) : t.StagingLaw := by
  have holds : ∀ i, (∃ m, t.engine.job = some m ∧ i ∈ m.slots) ↔ ∃ m, s.engine.job = some m ∧ i ∈ m.slots := fun i => by
    simp [hj, hk, slots]
  obtain ⟨h1, h2, h3, h4, h5, h6, h7, h8, h9, h10, h11, h12⟩ := law
  constructor
  case job => intro i; rw [holds, staging]; exact h8 i
  case jobNodup =>
    intro m hm
    obtain rfl := Option.some.inj (hk.symm.trans hm)
    exact slots ▸ h9 j hj
  case source =>
    intro m hm waits
    obtain rfl := Option.some.inj (hk.symm.trans hm)
    exact absurd waits awaited
  all_goals rw [staging]; assumption

/-- A job that goes to ALLOCATE has its target request answered (R47, R53, R54, R57, R90). -/
theorem State.allocatePhase_targetAnswered (s : State) (j k : Job) (law : s.StagingLaw) (hj : s.engine.job = some j)
    (slots : k.slots = j.slots) :
    (s.withJob (some { k with cursor := 0, phase := .allocate, awaited := none })).TargetAnswered (s.allocatePhase k)
      { k with cursor := 0, phase := .allocate, awaited := none } :=
  State.requestTarget_targetAnswered _ _ (law.sameSlots hj rfl rfl slots nofun) rfl

/-- A sector marked retire pending and its RETIRE requested by the job (R8, R55, R57). -/
theorem State.addRequest_retire_requestTaken (s : State) (j k : Job) (p : Nat) (cause : RetireCause) (law : s.StagingLaw)
    (hj : s.engine.job = some j) (slots : k.slots = j.slots) (awaited : k.awaited ≠ some .retireSource) :
    ({ s with
        engine := { s.engine with job := some k }
        tables := s.tables.setRecord p { s.tables.record p with retirePending := true } } : State).RequestTaken
      (((s.markRetirePending p).withJob (some k)).addRequest (.append .commitEngine (.retire p cause)))
      (.append .commitEngine (.retire p cause)) :=
  State.addRequest_requestTaken _ _ (law.sameSlots hj rfl rfl slots awaited)

/-! ## The cursor moved -/

/-- All that the end of the page at the cursor can do, on a free link (R50, R52, R56, R59). -/
theorem State.pageDone_pageDone (s : State) (j : Job) (law : s.StagingLaw) (hj : s.engine.job = some j)
    (free : s.link.op = none) : s.PageDone (s.pageDone j) j where
  nextJobPage q kind first := by
    have next := (s.nextJobPage_eq_some j (j.cursor + 1) q).mpr first
    have reads : s.pageDone j = s.readSource { j with cursor := q, phase := .programInPlace } := by
      simp [State.pageDone, kind, State.programFrom, next]
    rw [reads]
    exact s.readSource_eq _ free
  lastJobPage kind last := by
    have none_left := (s.nextJobPage_eq_none j (j.cursor + 1)).mpr last
    have ends : s.pageDone j = (s.withStaging (s.staging.freeSlots j.slots)).endJob := by
      simp [State.pageDone, kind, State.programFrom, none_left]
    rw [ends]
    exact ⟨_, s.slotsFreed_freeSlots j law hj, State.endJob_jobEnded _ (law.freeSlots hj rfl nofun)⟩
  nextPage kind inside := by
    have reads : s.pageDone j = s.readSource { j with cursor := j.cursor + 1, phase := .copy } := by
      simp [State.pageDone, kind, State.copyFrom, Nat.succ_lt_succ inside]
    rw [reads]
    exact s.readSource_eq _ free
  remap p kind last target := by
    have asks : s.pageDone j =
        (s.withJob (some { j with cursor := 16, phase := .journal, awaited := some .remap })).addRequest
          (.append .commitEngine
            (.remap j.logical p j.source (if j.fallback = none then .ordinary else .inPlaceFailed))) := by
      cases fallback : j.fallback <;> simp [State.pageDone, kind, State.copyFrom, last, target, fallback]
    rw [asks]
    exact State.addRequest_requestTaken _ _ (law.sameSlots hj rfl rfl rfl nofun)

/-! ## PAGE_READ_END -/

/-- A page read ended hands its bytes to the job (R46). -/
theorem exec_pageReadEnd (s : State) (a : Nat) (bytes : List Byte)
    (op : s.link.op = some { user := .commitEngine, op := .pageRead a, stage := .reading }) (whole : bytes.length = 256) :
    exec (.pageReadEnd bytes) s = .next ((s.withOp none).pageReadDone bytes).closeStep := by
  simp [exec, execPageReadEnd, op, whole]

section
variable (s : State) (j : Job) (bytes : List Byte) (hj : s.engine.job = some j)
include hj

/-- After a compatible page in DECIDE the next job page is read (R48). -/
theorem State.pageReadDone_decide_next (free : s.link.op = none) (phase : j.phase = .decide)
    (fits : s.pageCompatible j j.cursor bytes = true) (q : Nat) (first : s.firstPage j (j.cursor + 1) q) :
    s.pageReadDone bytes =
      s.engineAsks { j with cursor := q } s.engine.workPage (.pageRead (j.source * 4096 + q * 256)) := by
  have next := (s.nextJobPage_eq_some j (j.cursor + 1) q).mpr first
  have reads : s.pageReadDone bytes = s.readSource { j with cursor := q } := by
    simp [State.pageReadDone, hj, phase, fits, next]
  rw [reads]
  exact s.readSource_eq _ free

/-- After the last compatible page in DECIDE the job is in place, from its first page on (R48, R50). -/
theorem State.pageReadDone_decide_last (free : s.link.op = none) (phase : j.phase = .decide)
    (fits : s.pageCompatible j j.cursor bytes = true) (last : s.noPage j (j.cursor + 1)) (q : Nat) (first : s.firstPage j 0 q) :
    s.pageReadDone bytes =
      s.engineAsks { j with kind := .inPlace, cursor := q, phase := .programInPlace } s.engine.workPage
        (.pageRead (j.source * 4096 + q * 256)) := by
  have noNext := (s.nextJobPage_eq_none j (j.cursor + 1)).mpr last
  have restart : s.nextJobPage { j with kind := .inPlace } 0 = some q := (s.nextJobPage_eq_some j 0 q).mpr first
  have starts : s.pageReadDone bytes = s.programFrom { j with kind := .inPlace } 0 := by
    simp [State.pageReadDone, hj, phase, fits, noNext]
  rw [starts, State.programFrom, restart]
  exact s.readSource_eq _ free

/-- A page in DECIDE that does not fit makes the job a relocation (R47, R48). -/
theorem State.pageReadDone_decide_unfit (phase : j.phase = .decide) (unfit : s.pageCompatible j j.cursor bytes = false) :
    s.pageReadDone bytes = s.allocatePhase { j with kind := .relocate } := by
  simp [State.pageReadDone, hj, phase, unfit]

/-- A page read in place is programmed, or passed over when the slot changes nothing in it (R50). -/
theorem State.pageReadDone_inPlace (phase : j.phase = .programInPlace) (kind : j.kind = .inPlace) :
    s.pageReadDone bytes =
      let t := s.withWorkPage (s.mergedImage j j.cursor bytes)
      if s.mergedImage j j.cursor bytes = bytes then t.pageDone j
      else t.requestCommit .commitEngine (.program j.pageAddr (s.mergedImage j j.cursor bytes)) := by
  simp [State.pageReadDone, hj, phase, State.pageDone, kind]

/-- A page read in a copy is programmed, or left out when its image is blank (R56). -/
theorem State.pageReadDone_copy (phase : j.phase = .copy) (kind : j.kind = .relocate) :
    s.pageReadDone bytes =
      let t := s.withWorkPage (s.mergedImage j j.cursor bytes)
      if allErased (s.mergedImage j j.cursor bytes) = true then t.pageDone j
      else t.requestCommit .commitEngine (.program j.pageAddr (s.mergedImage j j.cursor bytes)) := by
  simp [State.pageReadDone, hj, phase, State.pageDone, kind]

end

/-- Settles O52: DECIDE goes by `State.pageCompatible_iff`; in the two phases that write, the image is `State.mergedImage`, and a
page passed over ends as a page written does. -/
theorem copyProgramsMergedPage : Obligations.CopyProgramsMergedPage := by
  intro s j a bytes op whole hj once page answers fits
  have ended := exec_pageReadEnd s a bytes op whole
  have fit : (s.withOp none).pageCompatible j j.cursor bytes = true ↔ fits :=
    s.pageCompatible_iff j j.cursor bytes once whole
  refine ⟨fun phase ok q first => ?_, fun phase ok last q first => ?_, fun law phase unfit => ?_,
    s.mergedImage j j.cursor bytes, s.mergedImage_merged j j.cursor bytes once whole, ?_⟩
  · rw [State.pageReadDone_decide_next (s.withOp none) j bytes hj rfl phase (fit.mpr ok) q first] at ended
    exact ended
  · rw [State.pageReadDone_decide_last (s.withOp none) j bytes hj rfl phase (fit.mpr ok) last q first] at ended
    exact ended
  · rw [State.pageReadDone_decide_unfit (s.withOp none) j bytes hj phase (Bool.eq_false_iff.mpr (mt fit.mp unfit))] at ended
    have kept : (s.withOp none).StagingLaw := law.congr rfl rfl rfl
    exact ⟨_, ended, (s.withOp none).allocatePhase_targetAnswered j { j with kind := .relocate } kept hj rfl⟩
  intro done
  have merged : (s.withOp none).mergedImage j j.cursor bytes = s.mergedImage j j.cursor bytes := rfl
  have written : (s.withOp none).withWorkPage (s.mergedImage j j.cursor bytes) = done := rfl
  have passed : s.StagingLaw → done.PageDone (done.pageDone j) j := fun law =>
    done.pageDone_pageDone j (law.congr rfl rfl rfl) hj rfl
  have programs : ∀ addr, done.requestCommit .commitEngine (.program addr (s.mergedImage j j.cursor bytes)) =
      s.engineAsks j (s.mergedImage j j.cursor bytes) (.program addr (s.mergedImage j j.cursor bytes)) := fun addr =>
    done.requestCommit_eq j _ hj rfl
  refine ⟨fun phase kind => ?_, fun target phase kind hasTarget => ?_⟩
  · rw [State.pageReadDone_inPlace (s.withOp none) j bytes hj phase kind, merged, written] at ended
    refine ⟨fun differs => ?_, fun same law => ⟨_, ended.trans (by rw [if_pos same]), passed law⟩⟩
    rw [if_neg differs, programs, j.pageAddr_eq j.source (.inl ⟨kind, rfl⟩)] at ended
    exact ended
  · rw [State.pageReadDone_copy (s.withOp none) j bytes hj phase kind, merged, written] at ended
    refine ⟨fun ⟨v, hv, notBlank⟩ => ?_,
      fun blank law => ⟨_, ended.trans (by rw [if_pos ((allErased_iff _).mpr blank)]), passed law⟩⟩
    rw [if_neg fun blank => notBlank ((allErased_iff _).mp blank v hv), programs,
      j.pageAddr_eq target (.inr ⟨kind, hasTarget⟩)] at ended
    exact ended

/-! ## The ends of a page's write -/

/-- The status that ends the engine's program hands it the outcome (R50, R56, R111). -/
theorem exec_programEnd_commitEngine (s : State) (st : Byte) (a : Nat) (data : List Byte) (since : Nat)
    (op : s.link.op = some { user := .commitEngine, op := .program a data, stage := .polling since })
    (ready : st.getLsbD 0 = false) :
    exec (.programEnd st) s = .next ((s.withOp none).commitProgramEnd (st.getLsbD 3)).closeStep := by
  have ready : busyFlag st = false := ready
  simp [exec, execProgramEnd, op, ready, State.programOutcome, failFlag]

/-- The read-back of the engine's page hands it the bytes (R51). -/
theorem exec_readBackEnd_commitEngine (s : State) (bytes : List Byte) (a : Nat)
    (op : s.link.op = some { user := .commitEngine, op := .readBack a bytes.length, stage := .reading }) :
    exec (.readBackEnd bytes) s = .next ((s.withOp none).commitReadBackEnd bytes).closeStep := by
  simp [exec, execReadBackEnd, op, State.readBackOutcome]

section
variable (s : State) (c : Instr) (j : Job) (hj : s.engine.job = some j)
include hj

/-- A page programmed well with verify on is read back (R51). -/
theorem State.commitProgramEnd_verifies (verify : s.values.verify = true) (free : s.link.op = none) :
    s.commitProgramEnd false =
      s.engineAsks { j with phase := .verify } s.engine.workPage (.readBack j.pageAddr 256) := by
  have asks : s.commitProgramEnd false =
      (s.withJob (some { j with phase := .verify })).requestCommit .commitEngine (.readBack j.pageAddr 256) := by
    simp [State.commitProgramEnd, hj, verify]
  rw [asks]
  exact State.requestCommit_eq _ _ _ rfl free

/-- A command that ends the page's write well moves the cursor on (R50, R51, R56). -/
theorem exec_pageGood (good : s.pageGood c) : exec c s = .next ((s.withOp none).pageDone j).closeStep := by
  rcases good with ⟨st, a, data, since, rfl, op, ready, passed, verify⟩ | ⟨a, rfl, op⟩
  · rw [exec_programEnd_commitEngine s st a data since op ready, passed]
    simp [State.commitProgramEnd, hj, verify]
  · rw [exec_readBackEnd_commitEngine s _ a op]
    simp [State.commitReadBackEnd, hj]

/-- A command that ends the page's write in failure fails the page (R53, R57). -/
theorem exec_pageBad (cause : RetireCause) (bad : s.pageBad c cause) :
    exec c s = .next ((s.withOp none).pageFailed j cause).closeStep := by
  rcases bad with ⟨rfl, st, a, data, since, rfl, op, ready, failed⟩ | ⟨rfl, bytes, a, rfl, differs, op⟩
  · rw [exec_programEnd_commitEngine s st a data since op ready, failed]
    simp [State.commitProgramEnd, hj]
  · rw [exec_readBackEnd_commitEngine s bytes a op]
    simp [State.commitReadBackEnd, hj, differs]

end

theorem State.mayRetire_iff (s : State) : s.mayRetire = true ↔ s.tables.retiredCount + s.tables.pendingCount < 64 := by
  simp [State.mayRetire]

/-- The target of a relocation whose page failed is to be retired, room being left for it (R57, R8). -/
theorem State.pageFailed_room (s : State) (j : Job) (cause : RetireCause) (target : Nat) (kind : j.kind = .relocate)
    (hasTarget : j.target = some target) (room : s.mayRetire = true) :
    s.pageFailed j cause =
      ((s.markRetirePending target).withJob (some { j with phase := .journal, awaited := some .retireTarget })).addRequest
        (.append .commitEngine (.retire target cause)) := by
  simp [State.pageFailed, kind, hasTarget, room]

/-- A relocation whose page failed at the cap of retired sectors is abandoned with the latch set (R57, R8, R61). -/
theorem State.pageFailed_capped (s : State) (j : Job) (cause : RetireCause) (target : Nat) (kind : j.kind = .relocate)
    (hasTarget : j.target = some target) (full : ¬s.mayRetire = true) :
    s.pageFailed j cause = s.latched.abandonJob := by
  simp [State.pageFailed, kind, hasTarget, full, State.setLatch_eq]

/-! ## The completion of a RETIRE -/

/-- s with sector p RETIRED and off the spare list (R14). -/
def State.retired (s : State) (p : Nat) : State :=
  { s with
    tables := s.tables.setRecord p { s.tables.record p with state := some .retired, owner := none, retirePending := false }
    pool := { s.pool with spares := s.pool.spares.filter (· != p) } }

/-- The completion of a RETIRE, the latch set by the 64th (R14). -/
theorem State.completeRetire_eq (s : State) (p : Nat) :
    s.completeRetire p = if (s.retired p).tables.retiredCount = 64 then (s.retired p).latched else s.retired p := by
  have moved : (s.withTables ((s.tables.setState p .retired none).setPending p false)).withPool
      { s.pool with spares := s.pool.spares.filter (· != p) } = s.retired p := by
    rw [Tables.setPending_setState]
    rfl
  simp only [State.completeRetire, moved, State.setLatch_eq]

theorem State.latched_engine (s : State) : s.latched.engine = s.engine :=
  s.setLatch_eq ▸ s.setLatch_engine

theorem State.StagingLaw.completeRetire {s : State} (law : s.StagingLaw) (p : Nat) : (s.completeRetire p).StagingLaw := by
  have gone : (s.retired p).StagingLaw := law.congr rfl rfl rfl
  rw [State.completeRetire_eq]
  split
  · exact gone.latched
  · exact gone

section
variable (s : State) (j : Job) (law : s.StagingLaw) (hj : s.engine.job = some j)
include law hj

/-- After a target's RETIRE a new target is asked for (R57). -/
theorem State.commitRetireDone_target (awaited : j.awaited = some .retireTarget) (early : j.attempt < 3) :
    let k := { j with target := none, attempt := j.attempt + 1, cursor := 0, phase := .allocate, awaited := none }
    (s.withJob (some k)).TargetAnswered s.commitRetireDone k := by
  have asks : s.commitRetireDone = s.allocatePhase { j with target := none, awaited := none, attempt := j.attempt + 1 } := by
    simp [State.commitRetireDone, hj, awaited, early]
  rw [asks]
  exact s.allocatePhase_targetAnswered j { j with target := none, awaited := none, attempt := j.attempt + 1 } law hj rfl

/-- After the third target's RETIRE the latch is set and the job abandoned (R58). -/
theorem State.commitRetireDone_exhausted (awaited : j.awaited = some .retireTarget) (third : 3 ≤ j.attempt) :
    let k := { j with target := none, awaited := none }
    (s.withJob (some k)).latched.JobAbandoned s.commitRetireDone k := by
  intro k
  have abandons : s.commitRetireDone = (s.withJob (some k)).latched.abandonJob := by
    simp [State.commitRetireDone, hj, awaited, Nat.not_lt.mpr third, State.setLatch_eq, k]
  have kept : (s.withJob (some k)).StagingLaw := law.sameSlots hj rfl rfl rfl nofun
  rw [abandons]
  exact State.abandonJob_jobAbandoned _ k kept.latched (by rw [State.latched_engine]; rfl)

/-- After a spare's RETIRE a target is asked for (R55). -/
theorem State.commitRetireDone_spare (awaited : j.awaited = some .retireSpare) :
    let k := { j with cursor := 0, phase := .allocate, awaited := none }
    (s.withJob (some k)).TargetAnswered s.commitRetireDone k := by
  have asks : s.commitRetireDone = s.allocatePhase j := by
    simp [State.commitRetireDone, hj, awaited]
  rw [asks]
  exact s.allocatePhase_targetAnswered j j law hj rfl

/-- After the source's RETIRE the job ends (R60). -/
theorem State.commitRetireDone_source (awaited : j.awaited = some .retireSource) : s.JobEnded s.commitRetireDone := by
  have ends : s.commitRetireDone = s.endJob := by simp [State.commitRetireDone, hj, awaited]
  rw [ends]
  refine s.endJob_jobEnded (law.dropJob fun k hk => ?_)
  obtain rfl := Option.some.inj (hj.symm.trans hk)
  exact law.source j hj awaited

end

/-- Settles O53: the outcome of a page's write is `State.pageDone` or `State.pageFailed`; a completed RETIRE is
`State.completeRetire`, after which the requester goes on by what its job awaits. -/
theorem pageProgramEndVerifiesOrRetires : Obligations.PageProgramEndVerifiesOrRetires := by
  refine ⟨fun s c j hj => ?_, fun s c who p cause rest good law _ => ?_⟩
  · intro after answers
    have kept : s.StagingLaw → after.StagingLaw := fun law => law.congr rfl rfl rfl
    have job : after.engine.job = some j := hj
    refine ⟨?_, fun good law _ => ⟨_, exec_pageGood s c j hj good, after.pageDone_pageDone j (kept law) job rfl⟩,
      fun cause bad law kind => ?_, fun cause target bad law kind hasTarget => ⟨fun room => ?_, fun full => ?_⟩⟩
    · rintro sector st a data since rfl op ready passed verify written
      have ended := exec_programEnd_commitEngine s st a data since op ready
      rw [passed, State.commitProgramEnd_verifies (s.withOp none) j hj verify rfl, j.pageAddr_eq sector written] at ended
      exact ended
    · have falls : after.pageFailed j cause = after.allocatePhase { j with kind := .relocate, fallback := some cause } := by
        simp [State.pageFailed, kind]
      exact ⟨_, exec_pageBad s c j hj cause bad, falls ▸ after.allocatePhase_targetAnswered j
        { j with kind := .relocate, fallback := some cause } (kept law) job rfl⟩
    · have asks := after.pageFailed_room j cause target kind hasTarget (after.mayRetire_iff.mpr room)
      exact ⟨_, exec_pageBad s c j hj cause bad, asks ▸
        after.addRequest_retire_requestTaken j _ target cause (kept law) job rfl nofun⟩
    · have abandons := after.pageFailed_capped j cause target kind hasTarget
        (mt after.mayRetire_iff.mp (Nat.not_lt.mpr full))
      exact ⟨_, exec_pageBad s c j hj cause bad, abandons ▸
        after.latched.abandonJob_jobAbandoned j (kept law).latched (after.latched_engine ▸ job)⟩
  · intro gone retired answers
    have completed : (s.appended rest).completeRetire p = retired := (s.appended rest).completeRetire_eq p
    have kept : retired.StagingLaw := by
      rw [← completed]
      exact (law.congr rfl rfl rfl : (s.appended rest).StagingLaw).completeRetire p
    have engine : retired.engine = s.engine := by
      rw [← completed]
      exact (s.appended rest).completeRetire_engine p
    have done : answers ((s.appended rest).requesterDone who (.retire p cause)) := exec_appendGood s c who _ rest good
    refine ⟨?_, ?_⟩
    · rintro j rfl hj
      have job : retired.engine.job = some j := by rw [engine]; exact hj
      have goesOn : answers retired.commitRetireDone := by rw [← completed]; exact done
      have withJob : ∀ k, ({ retired with engine := { s.engine with job := k } } : State) = retired.withJob k := fun k => by
        rw [State.withJob, engine]
        rfl
      simp only [withJob]
      exact ⟨fun awaited early => ⟨_, goesOn, retired.commitRetireDone_target j kept job awaited early⟩,
        fun awaited third => ⟨_, goesOn, retired.commitRetireDone_exhausted j kept job awaited third⟩,
        fun awaited => ⟨_, goesOn, retired.commitRetireDone_spare j kept job awaited⟩,
        fun awaited => ⟨_, goesOn, retired.commitRetireDone_source j kept job awaited⟩⟩
    · rintro rfl
      have turns : answers retired.endTurn := by rw [← completed]; exact done
      exact ⟨_, turns, retired.endTurn_turnEnded⟩

end Sys2Proof.Machine
end

section
namespace Sys2Proof.Machine

/-! ## The append position of a mount -/

/-- The number that a fold over the positions 0 to n - 1 leaves when each position without P raises it to the one behind it. -/
def positionAfterLast (P : Nat → Prop) [DecidablePred P] (n : Nat) : Nat :=
  (List.range n).foldl (fun m q => if P q then m else q + 1) 0

/-- Every position from `positionAfterLast` on has P, and the one before it has not. -/
theorem positionAfterLast_spec (P : Nat → Prop) [DecidablePred P] (n : Nat) :
    positionAfterLast P n ≤ n ∧ (∀ q < n, positionAfterLast P n ≤ q → P q) ∧
      (0 < positionAfterLast P n → ¬P (positionAfterLast P n - 1)) := by
  induction n with
  | zero => simp [positionAfterLast]
  | succ n ih =>
    obtain ⟨bound, behind, last⟩ := ih
    have next : positionAfterLast P (n + 1) = if P n then positionAfterLast P n else n + 1 := by
      simp [positionAfterLast, List.range_succ]
    rw [next]
    by_cases h : P n
    · rw [if_pos h]
      refine ⟨by omega, fun q hq above => ?_, last⟩
      rcases Nat.lt_succ_iff_lt_or_eq.mp hq with lt | rfl
      · exact behind q lt above
      · exact h
    · rw [if_neg h]
      exact ⟨le_rfl, fun q hq above => by omega, fun _ => h⟩

/-- The append position that mount installs is the one behind the last position that is not blank (R74). -/
theorem appendPositionOf_eq (image : List Byte) :
    appendPositionOf image = positionAfterLast (fun q => classOf (positionBytes image q) = .blank) 256 := rfl

/-- Settles O18: mount's fold over the positions is `positionAfterLast` of the blank ones. -/
theorem appendPositionAfterLastWritten : Obligations.AppendPositionAfterLastWritten := by
  intro image
  rw [appendPositionOf_eq]
  exact positionAfterLast_spec _ 256

/-! ## The bytes of an entry -/

theorem byteAt_append_left (l tail : List Byte) (k : Nat) (h : k < l.length) : byteAt (l ++ tail) k = byteAt l k := by
  rw [byteAt, byteAt, List.getD_append _ _ _ _ h]

theorem wordAt_append_left (l tail : List Byte) (k : Nat) (h : k + 1 < l.length) : wordAt (l ++ tail) k = wordAt l k := by
  rw [wordAt, wordAt, byteAt_append_left _ _ _ (by omega), byteAt_append_left _ _ _ h]

/-- A two-byte number read where it is written (R194). -/
theorem wordAt_le16 (n : Nat) (tail : List Byte) (h : n < 65536) : wordAt (le16 n ++ tail) 0 = n := by
  simp only [wordAt, byteAt, le16, List.cons_append, List.getD_cons_zero, List.getD_cons_succ, BitVec.toNat_ofNat]
  omega

/-- A four-byte number read where it is written (R194). -/
theorem longAt_le32 (n : Nat) (tail : List Byte) (h : n < 2 ^ 32) : longAt (le32 n ++ tail) 0 = n := by
  simp only [longAt, wordAt, byteAt, le32, List.cons_append, List.getD_cons_zero, List.getD_cons_succ, BitVec.toNat_ofNat]
  omega

/-- The numbers of a run of two-byte numbers (R194). -/
theorem wordAt_flatMap_le16 (numbers : List Nat) (tail : List Byte) (small : ∀ p ∈ numbers, p < 65536) (i : Nat)
    (hi : i < numbers.length) : wordAt (numbers.flatMap le16 ++ tail) (2 * i) = numbers[i] := by
  induction numbers generalizing i with
  | nil => simp at hi
  | cons p numbers ih =>
    rw [List.flatMap_cons, List.append_assoc]
    cases i with
    | zero => exact wordAt_le16 p _ (small p (by simp))
    | succ i => exact ih (fun q hq => small q (by simp [hq])) i (by simpa using hi)

theorem length_flatMap_le16 (numbers : List Nat) : (numbers.flatMap le16).length = 2 * numbers.length := by
  simp [le16, Nat.mul_comm]

/-- The fourteen bytes that an entry's check value covers: its body, filled up with zeros (R195). -/
def coveredBytes (body : List Byte) : List Byte :=
  body ++ List.replicate (14 - body.length) 0

theorem entryImage_eq (body : List Byte) : entryImage body = coveredBytes body ++ le16 (crc16 (coveredBytes body)).toNat := rfl

theorem length_coveredBytes (body : List Byte) (h : body.length ≤ 14) : (coveredBytes body).length = 14 := by
  simp [coveredBytes]
  omega

theorem length_entryImage (body : List Byte) (h : body.length ≤ 14) : (entryImage body).length = 16 := by
  simp [entryImage_eq, length_coveredBytes body h, le16]

/-- An entry reads as the entry that its kind code and fields spell: its check value is right, and it is not blank (R70, R195). -/
theorem classOf_entryImage (kind : Byte) (fields : List Byte) (e : Entry) (short : fields.length ≤ 13) (known : kind ≠ 0xFF)
    (spells : entryOf (entryImage (kind :: fields)) = some e) : classOf (entryImage (kind :: fields)) = .valid e := by
  have covered := length_coveredBytes (kind :: fields) (Nat.succ_le_succ short)
  have notBlank : allErased (entryImage (kind :: fields)) = false := by
    simp only [entryImage_eq, coveredBytes, allErased, List.cons_append, List.all_cons, beq_false_of_ne known, Bool.false_and]
  have check : wordAt (entryImage (kind :: fields)) 14 = (crc16 ((entryImage (kind :: fields)).take 14)).toNat := by
    rw [entryImage_eq, List.take_left' covered]
    have value := wordAt_le16 (crc16 (coveredBytes (kind :: fields))).toNat [] (BitVec.isLt _)
    rw [List.append_nil] at value
    refine Eq.trans ?_ value
    simp only [wordAt, byteAt, List.getD_append_right _ _ _ _ (show (coveredBytes (kind :: fields)).length ≤ 14 by omega),
      List.getD_append_right _ _ _ _ (show (coveredBytes (kind :: fields)).length ≤ 14 + 1 by omega), covered]
  simp [classOf, notBlank, check, spells]

/-! ## The entries of a checkpoint -/

/-- The usable flags read from their byte (R194). -/
theorem usableOfByte_usableByte (usable : Vector Bool 8) : usableOfByte (usableByte usable).toNat = usable := by
  obtain ⟨⟨l⟩, size⟩ := usable
  obtain ⟨a, b, c, d, e, f, g, h, rfl⟩ : ∃ a b c d e f g h, l = [a, b, c, d, e, f, g, h] := by
    match l, size with
    | [a, b, c, d, e, f, g, h], _ => exact ⟨a, b, c, d, e, f, g, h, rfl⟩
  revert a b c d e f g h
  decide

/-- CKPT_BEGIN as it is read (R194). -/
theorem classOf_beginImage (sequence count : Nat) (usable : Vector Bool 8) (hs : sequence < 2 ^ 32) (hc : count < 256) :
    classOf (beginImage sequence count usable) = .valid (.ckptBegin sequence count (usableByte usable).toNat) := by
  have number := longAt_le32 sequence [] hs
  refine classOf_entryImage 0xC1 _ _ (by simp [le32]) (by decide) ?_
  have counted : (BitVec.ofNat 8 count).toNat = count := Nat.mod_eq_of_lt hc
  change some (Entry.ckptBegin (longAt (le32 sequence ++ []) 0) (BitVec.ofNat 8 count).toNat _) = _
  rw [number, counted]
  rfl

/-- CKPT_END as it is read (R194). -/
theorem classOf_endImage (count : Nat) (h : count < 256) : classOf (endImage count) = .valid (.ckptEnd count) := by
  refine classOf_entryImage 0xC4 _ _ (by simp) (by decide) ?_
  have counted : (BitVec.ofNat 8 count).toNat = count := Nat.mod_eq_of_lt h
  change some (Entry.ckptEnd (BitVec.ofNat 8 count).toNat) = _
  rw [counted]

/-- The numbers of an entry whose fields are one byte and up to six two-byte numbers (R194). -/
theorem take_words_entryImage (kind x : Byte) (numbers : List Nat) (places : Nat) (fits : numbers.length ≤ places)
    (small : ∀ p ∈ numbers, p < 512) :
    ((List.range places).map fun i => wordAt (entryImage (kind :: x :: numbers.flatMap le16)) (2 * i + 2)).take numbers.length =
      numbers := by
  refine List.ext_getElem (by simpa using fits) fun i _ hi => ?_
  rw [List.getElem_take, List.getElem_map, List.getElem_range, entryImage_eq, coveredBytes, List.append_assoc]
  exact wordAt_flatMap_le16 numbers _ (fun p hp => (small p hp).trans (by decide)) i hi

/-- CKPT_MAP as it is read: the entries of its four logical sectors (R194). -/
theorem classOf_mapImage (map : List Nat) (first : Nat) (whole : map.length = 256) (hf : first + 4 ≤ 256)
    (small : ∀ p ∈ map, p < 512) : classOf (mapImage map first) = .valid (.ckptMap first ((map.drop first).take 4)) := by
  have entries : (List.range 4).map (fun i => map.getD (first + i) 0) = (map.drop first).take 4 := by
    refine List.ext_getElem (by simp; omega) fun i hi _ => ?_
    have inside : first + i < map.length := by simp at hi; omega
    simp [List.getElem?_eq_getElem inside]
  have length : ((map.drop first).take 4).length = 4 := by simp; omega
  have number : (BitVec.ofNat 8 first).toNat = first := Nat.mod_eq_of_lt (by omega)
  have image : mapImage map first = entryImage (0xC2 :: BitVec.ofNat 8 first :: ((map.drop first).take 4).flatMap le16) := by
    rw [mapImage, ← entries, List.flatMap_map]
  have words := take_words_entryImage 0xC2 (BitVec.ofNat 8 first) _ 4 length.le
    fun p hp => small p (List.mem_of_mem_drop (List.mem_of_mem_take hp))
  rw [length, List.take_of_length_le (by simp), ← image] at words
  rw [image] at words ⊢
  refine classOf_entryImage 0xC2 _ _ (by rw [List.length_cons, length_flatMap_le16, length]; decide) (by decide) ?_
  change some (Entry.ckptMap (BitVec.ofNat 8 first).toNat ((List.range 4).map fun i => wordAt _ (2 * i + 2))) = _
  rw [words, number]

/-- CKPT_RETIRED as it is read: its number of sectors, and those sectors in the first of its six places (R194). -/
theorem classOf_retiredImage (sectors : List Nat) (six : sectors.length ≤ 6) (small : ∀ p ∈ sectors, p < 512) :
    ∃ slots, classOf (retiredImage sectors) = .valid (.ckptRetired sectors.length slots) ∧ slots.take sectors.length = sectors := by
  have number : (BitVec.ofNat 8 sectors.length).toNat = sectors.length := Nat.mod_eq_of_lt (by omega)
  refine ⟨_, classOf_entryImage 0xC3 _ _ ?_ (by decide) ?_, take_words_entryImage 0xC3 (.ofNat 8 sectors.length) sectors 6 six small⟩
  · rw [List.length_cons, length_flatMap_le16]
    omega
  · change some (Entry.ckptRetired (BitVec.ofNat 8 sectors.length).toNat ((List.range 6).map fun i => wordAt _ (2 * i + 2))) = _
    rw [number]

/-! ## The checkpoint read -/

/-- The positions of a sector written from its start on (R70). -/
theorem positionBytes_flatten (images : List (List Byte)) (rest : List Byte) (sixteen : ∀ x ∈ images, x.length = 16) (q : Nat)
    (x : List Byte) (hq : images[q]? = some x) : positionBytes (images.flatten ++ rest) q = x := by
  induction images generalizing q with
  | nil => simp at hq
  | cons y images ih =>
    have hy := sixteen y (by simp)
    rw [List.flatten_cons, List.append_assoc]
    cases q with
    | zero =>
      obtain rfl : y = x := by simpa using hq
      simp [positionBytes, List.take_left' hy]
    | succ q =>
      have skip : positionBytes (y ++ (images.flatten ++ rest)) (q + 1) = positionBytes (images.flatten ++ rest) q := by
        rw [positionBytes, positionBytes, show 16 * (q + 1) = 16 + 16 * q by omega, ← List.drop_drop, List.drop_left' hy]
      exact skip.trans (ih (fun z hz => sixteen z (by simp [hz])) q (by simpa using hq))

/-- A list cut into n runs of k, put together again. -/
theorem flatten_runs {α : Type} (l : List α) (k n : Nat) :
    ((List.range n).map fun i => (l.drop (k * i)).take k).flatten = l.take (k * n) := by
  induction n with
  | zero => simp
  | succ n ih => simp [List.range_succ, ih, Nat.mul_succ, List.take_add]

theorem mapM_eq_some_map {α β : Type} (f : α → Option β) (g : α → β) (l : List α) (h : ∀ a ∈ l, f a = some (g a)) :
    l.mapM f = some (l.map g) := by
  induction l with
  | nil => rfl
  | cons a l ih =>
    rw [List.mapM_cons, h a (by simp), ih fun b hb => h b (by simp [hb])]
    rfl

theorem length_mapImage (map : List Nat) (first : Nat) : (mapImage map first).length = 16 :=
  length_entryImage _ (by simp [le16, List.range, List.range.loop])

theorem length_retiredImage (sectors : List Nat) (six : sectors.length ≤ 6) : (retiredImage sectors).length = 16 := by
  refine length_entryImage _ ?_
  rw [List.length_cons, List.length_cons, length_flatMap_le16]
  omega

/-- Every entry of a checkpoint is sixteen bytes (R70, R73). -/
theorem length_of_mem_checkpointImages (sequence : Nat) (retired map : List Nat) (usable : Vector Bool 8) (x : List Byte)
    (h : x ∈ checkpointImages sequence retired map usable) : x.length = 16 := by
  simp only [checkpointImages, List.cons_append, List.mem_cons, List.mem_append, List.mem_map, List.not_mem_nil, or_false] at h
  rcases h with rfl | (⟨i, -, rfl⟩ | ⟨i, -, rfl⟩) | rfl
  · exact length_entryImage _ (by simp [le32])
  · exact length_mapImage map _
  · exact length_retiredImage _ (by simp)
  · exact length_entryImage _ (by simp)

section
variable (sequence j : Nat) (retired map : List Nat) (usable : Vector Bool 8) (rest : List Byte)

/-- The CKPT_MAP entries follow CKPT_BEGIN (R73). -/
theorem checkpointImages_map (i : Nat) (hi : i < 64) :
    (checkpointImages sequence retired map usable)[i + 1]? = some (mapImage map (4 * i)) := by
  simp [checkpointImages, List.getElem?_append_left, hi]

/-- The CKPT_RETIRED entries follow the 64 CKPT_MAP entries (R73). -/
theorem checkpointImages_retired (i : Nat) (hi : i < retiredEntries retired.length) :
    (checkpointImages sequence retired map usable)[65 + i]? = some (retiredImage ((retired.drop (6 * i)).take 6)) := by
  rw [show 65 + i = 64 + i + 1 by omega]
  simp [checkpointImages, List.getElem?_append_right, List.getElem?_append_left, hi]

/-- CKPT_END ends the checkpoint (R73). -/
theorem checkpointImages_end : (checkpointImages sequence retired map usable)[65 + retiredEntries retired.length]? =
    some (endImage (64 + retiredEntries retired.length)) := by
  rw [checkpointImages, List.getElem?_append_right (by simp)]
  simp [show 65 + retiredEntries retired.length - (64 + retiredEntries retired.length + 1) = 0 by omega]

/-- A journal sector's bytes from its start on: the head, the checkpoint behind it, and what else stands there. -/
def checkpointSector : List Byte :=
  (headImage sequence j :: checkpointImages sequence retired map usable).flatten ++ rest

/-- Position q + 1 of the sector holds entry q of the checkpoint (R73, R81). -/
theorem positionBytes_checkpointSector (q : Nat) (x : List Byte)
    (hq : (checkpointImages sequence retired map usable)[q]? = some x) :
    positionBytes (checkpointSector sequence j retired map usable rest) (q + 1) = x := by
  refine positionBytes_flatten _ rest (fun y hy => ?_) (q + 1) x (by simpa using hq)
  rcases List.mem_cons.mp hy with rfl | hy
  · exact length_entryImage _ (by simp [le32])
  · exact length_of_mem_checkpointImages sequence retired map usable y hy

/-- The four entries read at a CKPT_MAP position (R73). -/
theorem ckptMapAt_checkpointSector (whole : map.length = 256) (small : ∀ p ∈ map, p < 512) (i : Nat) (hi : i < 64) :
    ckptMapAt (checkpointSector sequence j retired map usable rest) i = some ((map.drop (4 * i)).take 4) := by
  rw [ckptMapAt, Nat.add_comm 2 i,
    positionBytes_checkpointSector _ _ _ _ _ _ (i + 1) _ (checkpointImages_map sequence retired map usable i hi),
    classOf_mapImage map (4 * i) whole (by omega) small]
  simp

/-- The sectors read at a CKPT_RETIRED position (R73). -/
theorem ckptRetiredAt_checkpointSector (named : ∀ p ∈ retired, p < 512) (i : Nat) (hi : i < retiredEntries retired.length) :
    ckptRetiredAt (checkpointSector sequence j retired map usable rest) retired.length i =
      some ((retired.drop (6 * i)).take 6) := by
  obtain ⟨slots, read, places⟩ := classOf_retiredImage ((retired.drop (6 * i)).take 6) (by simp)
    fun p hp => named p (List.mem_of_mem_drop (List.mem_of_mem_take hp))
  rw [ckptRetiredAt, show 66 + i = 65 + i + 1 by omega,
    positionBytes_checkpointSector _ _ _ _ _ _ (65 + i) _ (checkpointImages_retired sequence retired map usable i hi), read]
  rw [List.length_take, List.length_drop] at places ⊢
  simp [places]

/-- The checkpoint read of a sector (R73, R171). -/
theorem checkpointOf_checkpointSector (number : sequence < 2 ^ 32) (whole : map.length = 256) (small : ∀ p ∈ map, p < 512)
    (few : retired.length ≤ 64) (named : ∀ p ∈ retired, p < 512) :
    checkpointOf (checkpointSector sequence j retired map usable rest) sequence =
      some { count := retired.length, usable := (usableByte usable).toNat, map := map, retired := retired } := by
  have entries : retiredEntries retired.length ≤ 11 := by simp only [retiredEntries]; omega
  have begins := positionBytes_checkpointSector sequence j retired map usable rest 0 _ rfl
  have maps := mapM_eq_some_map (ckptMapAt (checkpointSector sequence j retired map usable rest)) _ (List.range 64)
    fun i hi => ckptMapAt_checkpointSector sequence j retired map usable rest whole small i (List.mem_range.mp hi)
  have names := mapM_eq_some_map (ckptRetiredAt (checkpointSector sequence j retired map usable rest) retired.length) _
    (List.range (retiredEntries retired.length))
    fun i hi => ckptRetiredAt_checkpointSector sequence j retired map usable rest named i (List.mem_range.mp hi)
  have ends := positionBytes_checkpointSector sequence j retired map usable rest _ _
    (checkpointImages_end sequence retired map usable)
  have allMap : map.take (4 * 64) = map := List.take_of_length_le (by omega)
  have allRetired : retired.take (6 * retiredEntries retired.length) = retired :=
    List.take_of_length_le (by simp only [retiredEntries]; omega)
  rw [show 65 + retiredEntries retired.length + 1 = 66 + retiredEntries retired.length by omega] at ends
  simp only [checkpointOf, begins, classOf_beginImage sequence _ usable number (by omega : retired.length < 256), maps, names, ends,
    classOf_endImage _ (by omega : 64 + retiredEntries retired.length < 256), flatten_runs, allMap, allRetired, and_self, if_true]

end

/-- Settles O17: position by position the sector holds the entries of the checkpoint, each of which reads as it was written; the
runs of four map entries and of six retired sectors make up the lists they were cut from. -/
theorem checkpointReadsBackAsWritten : Obligations.CheckpointReadsBackAsWritten := by
  intro sequence j retired map usable rest number _ whole small few named
  exact ⟨_, checkpointOf_checkpointSector sequence j retired map usable rest number whole small few named, rfl, rfl, rfl,
    usableOfByte_usableByte usable⟩

end Sys2Proof.Machine
end

section
namespace Sys2Proof.Machine

/-! ## The ends of the journal's operations -/

/-- The status that ends the journal's program hands it the outcome (R76, R81, R111). -/
theorem exec_programEnd_journal (s : State) (st : Byte) (a : Nat) (data : List Byte) (since : Nat)
    (op : s.link.op = some { user := .journal, op := .program a data, stage := .polling since }) (ready : st.getLsbD 0 = false) :
    exec (.programEnd st) s = .next ((s.withOp none).journalProgramEnd (st.getLsbD 3)).closeStep := by
  have ready : busyFlag st = false := ready
  simp [exec, execProgramEnd, op, ready, State.programOutcome, failFlag]

/-- The journal's read-back hands it the bytes (R76, R81, R82). -/
theorem exec_readBackEnd_journal (s : State) (bytes : List Byte) (a : Nat)
    (op : s.link.op = some { user := .journal, op := .readBack a bytes.length, stage := .reading }) :
    exec (.readBackEnd bytes) s = .next ((s.withOp none).journalReadBackEnd bytes).closeStep := by
  simp [exec, execReadBackEnd, op, State.readBackOutcome]

/-- The status that ends the journal's erase hands it the outcome (R79, R82, R111). -/
theorem exec_eraseEnd_journal (s : State) (st : Byte) (e : EraseRecord) (p x : Nat)
    (op : s.link.op = some { user := .journal, op := .erase p, stage := .polling x }) (erasing : s.link.erasing = some e)
    (user : e.user = .journal) (running : e.progress = .running) (ready : st.getLsbD 0 = false) :
    exec (.eraseEnd st) s = .next (((s.withOp none).withErasing none).journalEraseEnd (st.getLsbD 3)).closeStep := by
  have ready : busyFlag st = false := ready
  simp [exec, execEraseEnd, op, erasing, running, ready, State.endErase, State.eraseOutcome, user, failFlag]

/-! ## A journal sector withdrawn -/

@[simp] theorem State.withdrawn_journal (s : State) (j : Nat) : (s.withdrawn j).journal = s.journal := by
  rw [← State.withdrawUsable_eq, State.withdrawUsable_journal]

/-- A withdrawal touches neither slots, queue nor job (R83). -/
theorem State.StagingLaw.withdrawn {s : State} (law : s.StagingLaw) (j : Nat) : (s.withdrawn j).StagingLaw := by
  have cleared : State.StagingLaw
      { s with tables := s.tables.setRecord j { s.tables.record j with usable := false } } := law.congr rfl rfl rfl
  simp only [State.withdrawn]
  split
  · exact cleared.latched
  · exact cleared

/-! ## Appends -/

/-- JOURNAL_NEXT_REQUEST begins the first request of an idle journal's list (R75). -/
theorem exec_journalNextRequest_idle (s : State) (idle : s.journal.activity = .idle) :
    exec .journalNextRequest s = .next s.beginRequest.closeStep := by
  simp [exec, execJournalNextRequest, idle]

section
variable (s : State) (who : Requester) (e : Payload) (rest : List JournalRequest)
  (hq : s.journal.requests = .append who e :: rest)
include hq

/-- The entry of the first request is to be programmed at the append position (R76, R114). -/
theorem State.appendEntry_asks : s.appendEntry =
    ({ s with journal := { s.journal with activity := .appending, opening := none } } : State).journalAsks who
      (.program s.journal.appendAddr (payloadImage e)) := by
  have asks : s.appendEntry = (s.withJournal { s.journal with activity := .appending, opening := none }).journalOp
      (.program s.journal.appendAddr (payloadImage e)) := by
    simp [State.appendEntry, Journal.entry, hq]
  rw [asks]
  exact State.journalOp_eq _ (.append who e) rest _ hq nofun

/-- JOURNAL_NEXT_REQUEST of an append that the active sector can take (R75, R76). -/
theorem exec_journalNextRequest_append (a q : Nat) (idle : s.journal.activity = .idle) (ha : s.journal.active = some a)
    (usable : s.tables.usable a = true) (hpos : s.journal.appendPos = some q) (low : q ≤ 255) :
    exec .journalNextRequest s = .next (State.closeStep
      (({ s with journal := { s.journal with activity := .appending, opening := none } } : State).journalAsks who
        (.program (a * 4096 + q * 16) (payloadImage e)))) := by
  have begins : s.beginRequest = s.appendEntry := by simp [State.beginRequest, hq, ha, usable, hpos, low]
  have address : s.journal.appendAddr = a * 4096 + q * 16 := by simp [Journal.appendAddr, ha, hpos, positionAddr]
  rw [exec_journalNextRequest_idle s idle, begins, s.appendEntry_asks who e rest hq, address]

/-- An append programmed well with verify on is read back (R76). -/
theorem State.journalProgramEnd_verifies (active q : Nat) (appending : s.journal.activity = .appending)
    (noOpening : s.journal.opening = none) (ha : s.journal.active = some active) (hpos : s.journal.appendPos = some q)
    (verify : s.values.verify = true) :
    s.journalProgramEnd false = s.journalAsks who (.readBack (active * 4096 + q * 16) 16) := by
  have reads : s.journalProgramEnd false = s.journalOp (.readBack (active * 4096 + q * 16) 16) := by
    simp [State.journalProgramEnd, appending, verify, Journal.appendAddr, ha, hpos, positionAddr]
  rw [reads]
  exact s.journalOp_eq (.append who e) rest _ hq (by simp [noOpening])

/-- With the latch clear and three or more usable a sector is opened for an append that failed (R78, R79). -/
theorem State.appendFailed_opens (law : s.StagingLaw) (active : Nat) (ha : s.journal.active = some active)
    (clear : (s.withdrawn active).ctl.degraded = false)
    (enough : 3 ≤ (List.range 8).countP fun k => (s.withdrawn active).tables.usable k) :
    (s.withdrawn active).OpeningBegun s.appendFailed .entry who := by
  have opens : s.appendFailed = (s.withdrawn active).beginOpening .entry := by
    simp [State.appendFailed, ha, State.withdrawUsable_eq, clear, Tables.usableCount_flags, enough]
  rw [opens]
  exact State.beginOpening_openingBegun _ .entry (law.withdrawn active) (.append who e) rest
    (by rw [State.withdrawn_journal, hq]) (.inl rfl)

omit hq in
/-- With the latch set or fewer than three usable an append that failed fails its request (R77, R78). -/
theorem State.appendFailed_fails (law : s.StagingLaw) (active : Nat) (ha : s.journal.active = some active)
    (stuck : (s.withdrawn active).ctl.degraded = true ∨
      (List.range 8).countP (fun k => (s.withdrawn active).tables.usable k) < 3) :
    (s.withdrawn active).RequestFailed s.appendFailed := by
  have notOpened : ¬((s.withdrawn active).ctl.degraded = false ∧
      3 ≤ (List.range 8).countP fun k => (s.withdrawn active).tables.usable k) := by
    rintro ⟨clear, enough⟩
    rcases stuck with set | few
    · simp [clear] at set
    · omega
  have fails : s.appendFailed = (s.withdrawn active).failRequest := by
    rw [State.appendFailed, ha, Option.getD_some, State.withdrawUsable_eq, Tables.usableCount_flags, if_neg notOpened]
  rw [fails]
  exact (s.withdrawn active).failRequest_requestFailed (law.withdrawn active)

end

/-- A command that ends an append in failure withdraws the active sector and goes on from there (R76, R78). -/
theorem exec_appendBad (s : State) (c : Instr) (who : Requester) (e : Payload) (rest : List JournalRequest)
    (bad : s.appendBad c who e rest) : exec c s = .next ((s.withOp none).appendFailed).closeStep := by
  obtain ⟨appending, hq, ends⟩ := bad
  rcases ends with ⟨st, a, data, since, rfl, op, ready, failed⟩ | ⟨bytes, a, rfl, differs, op⟩
  · rw [exec_programEnd_journal s st a data since op ready, failed]
    simp [State.journalProgramEnd, appending]
  · rw [exec_readBackEnd_journal s bytes a op]
    simp [State.journalReadBackEnd, appending, Journal.entry, hq, Ne.symm differs]

/-- Settles O55: the begin of an append and its read-back are asked for at the requester's level; a failure is `State.appendFailed`,
in the state with the active sector withdrawn. -/
theorem appendProgramsEntryAtPosition : Obligations.AppendProgramsEntryAtPosition := by
  refine ⟨fun s e a q rest idle ha usable hpos low => ?_, fun s c who e rest active ha => ⟨?_, fun bad law => ?_⟩⟩
  · exact ⟨fun hq => exec_journalNextRequest_append s .commitEngine e rest hq a q idle ha usable hpos low,
      fun hq => exec_journalNextRequest_append s .eraseEngine e rest hq a q idle ha usable hpos low⟩
  · rintro st a data since q rfl appending hq noOpening hpos op ready passed verify
    rw [exec_programEnd_journal s st a data since op ready, passed,
      (s.withOp none).journalProgramEnd_verifies who e rest hq active q appending noOpening ha hpos verify]
    rfl
  · have kept : (s.withOp none).StagingLaw := law.congr rfl rfl rfl
    have ⟨_, hq, _⟩ := bad
    exact ⟨_, exec_appendBad s c who e rest bad, (s.withOp none).appendFailed_opens who e rest hq kept active ha,
      (s.withOp none).appendFailed_fails kept active ha⟩

end Sys2Proof.Machine
end

section
namespace Sys2Proof.Machine

/-! ## An opening with the map in force: what the journal asks for next -/

theorem OpenPurpose.isMount_eq_false {p : OpenPurpose} (inForce : p = .entry ∨ p = .recording) : p.isMount = false := by
  rcases inForce with rfl | rfl <;> rfl

/-- A candidate is withdrawn from the flags in force (R82, R83). -/
theorem State.withdrawCandidate_inForce (s : State) (o : Opening) (inForce : o.purpose.isMount = false) :
    s.withdrawCandidate o.purpose o.candidate = s.withdrawn o.candidate := by
  simp [State.withdrawCandidate, inForce, State.withdrawUsable_eq]

section
variable (s : State) (o : Opening) (first : JournalRequest) (rest : List JournalRequest)
  (hq : s.journal.requests = first :: rest) (opening : s.journal.activity = .opening) (inForce : o.purpose.isMount = false)
include hq opening inForce

/-- The operation of an opening's stage is asked for at the level of the first request (R75, R114). -/
theorem State.setOpening_asks (op : FlashOp) :
    (s.setOpening o).journalOp op =
      ({ s with journal := { s.journal with opening := some o } } : State).journalAsks first.requester op := by
  have same : s.setOpening o = { s with journal := { s.journal with opening := some o } } := by
    simp [State.setOpening, State.withJournal, ← opening]
  rw [same]
  exact State.journalOp_eq _ first rest op hq (by rintro x ⟨⟩; exact inForce)

/-- Position q of the candidate is to be programmed (R81). -/
theorem State.writePosition_asks (q : Nat) :
    s.writePosition o q =
      ({ s with journal := { s.journal with opening := some { o with stage := .program q } } } : State).journalAsks first.requester
        (.program (o.candidate * 4096 + q * 16) (o.imageAt q)) :=
  s.setOpening_asks { o with stage := .program q } first rest hq opening inForce _

/-- After the head the checkpoint is taken, of the map, the retired set and the usable flags as they stand (R81). -/
theorem State.positionWritten_head :
    let images := checkpointImages o.number s.tables.retiredSectors s.tables.mapList s.tables.usableFlags
    s.positionWritten o 0 =
      ({ s with journal := { s.journal with opening := some { o with images := images, stage := .program 1 } } } :
        State).journalAsks first.requester (.program (o.candidate * 4096 + 1 * 16) (images.getD 0 [])) := by
  intro images
  have taken : s.openingCheckpoint o = images := by simp [State.openingCheckpoint, inForce, images]
  have begins : 0 < images.length := by simp [images, checkpointImages]
  have writes : s.positionWritten o 0 = s.writePosition { o with images := images } 1 := by
    simp [State.positionWritten, taken, begins]
  rw [writes]
  exact s.writePosition_asks { o with images := images } first rest hq opening inForce 1

/-- After a position of the checkpoint that is not its last the next one is written (R81). -/
theorem State.positionWritten_next (q : Nat) (behindHead : 1 ≤ q) (more : q < o.images.length) :
    s.positionWritten o q =
      ({ s with journal := { s.journal with opening := some { o with stage := .program (q + 1) } } } : State).journalAsks
        first.requester (.program (o.candidate * 4096 + (q + 1) * 16) (o.images.getD q [])) := by
  have writes : s.positionWritten o q = s.writePosition o (q + 1) := by
    simp [State.positionWritten, Nat.ne_of_gt behindHead, more]
  rw [writes]
  exact s.writePosition_asks o first rest hq opening inForce (q + 1)

/-- A candidate that failed with its head issued is voided (R82). -/
theorem State.candidateFailed_issued :
    let w := s.withdrawn o.candidate
    s.candidateFailed o true =
      ({ w with journal := { w.journal with opening := some { o with stage := .voidProgram } } } : State).journalAsks first.requester
        (.program (o.candidate * 4096 + 0 * 16) (List.replicate 16 0)) := by
  intro w
  have journal : w.journal = s.journal := s.withdrawn_journal o.candidate
  have voids : s.candidateFailed o true =
      (w.setOpening { o with stage := .voidProgram }).journalOp (.program (o.candidate * 4096 + 0 * 16) (List.replicate 16 0)) := by
    simp [State.candidateFailed, s.withdrawCandidate_inForce o inForce, positionAddr, voidImage, w]
  rw [voids]
  exact w.setOpening_asks { o with stage := .voidProgram } first rest (journal ▸ hq) (journal ▸ opening) inForce _

variable (ho : s.journal.opening = some o)
include ho

/-- A position programmed well with verify on is read back (R81). -/
theorem State.journalProgramEnd_checks (q : Nat) (stage : o.stage = .program q) (verify : s.values.verify = true) :
    s.journalProgramEnd false =
      ({ s with journal := { s.journal with opening := some { o with stage := .check q } } } : State).journalAsks first.requester
        (.readBack (o.candidate * 4096 + q * 16) 16) := by
  have reads : s.journalProgramEnd false =
      (s.setOpening { o with stage := .check q }).journalOp (.readBack (o.candidate * 4096 + q * 16) 16) := by
    simp [State.journalProgramEnd, opening, ho, stage, verify, positionAddr]
  rw [reads]
  exact s.setOpening_asks { o with stage := .check q } first rest hq opening inForce _

/-- A void programmed is read back, whatever its outcome (R82). -/
theorem State.journalProgramEnd_void (stage : o.stage = .voidProgram) (fail : Bool) :
    s.journalProgramEnd fail =
      ({ s with journal := { s.journal with opening := some { o with stage := .voidCheck } } } : State).journalAsks first.requester
        (.readBack (o.candidate * 4096 + 0 * 16) 16) := by
  have reads : s.journalProgramEnd fail =
      (s.setOpening { o with stage := .voidCheck }).journalOp (.readBack (o.candidate * 4096 + 0 * 16) 16) := by
    simp [State.journalProgramEnd, opening, ho, stage, positionAddr]
  rw [reads]
  exact s.setOpening_asks { o with stage := .voidCheck } first rest hq opening inForce _

/-- An erased candidate is no longer pending, and gets its head (R79, R81). -/
theorem State.journalEraseEnd_head (stage : o.stage = .erase) :
    s.journalEraseEnd false =
      ({ s with
        journal :=
          { s.journal with
            pendingErase := s.journal.pendingErase.setIfInBounds o.candidate false
            opening := some { o with stage := .program 0 } } } : State).journalAsks first.requester
        (.program (o.candidate * 4096 + 0 * 16) (headImage o.number o.candidate)) := by
  have writes : s.journalEraseEnd false =
      (s.withJournal (s.journal.setPendingErase o.candidate false)).writePosition o 0 := by
    simp [State.journalEraseEnd, ho, stage]
  rw [writes]
  exact (s.withJournal (s.journal.setPendingErase o.candidate false)).writePosition_asks o first rest hq opening inForce 0

end

/-! ## The ends of a position's write -/

section
variable (s : State) (o : Opening) (opening : s.journal.activity = .opening) (ho : s.journal.opening = some o)
include opening ho

/-- A command that ends the write of a position well has it written (R81). -/
theorem exec_positionGood (c : Instr) (q : Nat) (inForce : o.purpose.isMount = false) (good : s.positionGood c o q) :
    exec c s = .next ((s.withOp none).positionWritten o q).closeStep := by
  rcases good with ⟨st, a, data, since, rfl, stage, op, ready, passed, verify⟩ | ⟨bytes, a, rfl, stage, same, op⟩
  · rw [exec_programEnd_journal s st a data since op ready, passed]
    simp [State.journalProgramEnd, opening, ho, stage, inForce, verify]
  · rw [exec_readBackEnd_journal s bytes a op]
    simp [State.journalReadBackEnd, opening, ho, stage, same]

/-- A command that ends the write of a position in failure fails the candidate, its head issued (R82). -/
theorem exec_positionBad (c : Instr) (bad : s.positionBad c o) :
    exec c s = .next ((s.withOp none).candidateFailed o true).closeStep := by
  rcases bad with ⟨st, a, data, since, q, rfl, stage, op, ready, failed⟩ | ⟨bytes, a, q, rfl, stage, differs, op⟩
  · rw [exec_programEnd_journal s st a data since op ready, failed]
    simp [State.journalProgramEnd, opening, ho, stage]
  · rw [exec_readBackEnd_journal s bytes a op]
    simp [State.journalReadBackEnd, opening, ho, stage, differs]

/-- The void read back is judged for a valid head (R82). -/
theorem exec_voidCheck (bytes : List Byte) (a : Nat) (stage : o.stage = .voidCheck)
    (op : s.link.op = some { user := .journal, op := .readBack a bytes.length, stage := .reading }) :
    exec (.readBackEnd bytes) s =
      .next ((s.withOp none).nextCandidate o (validHead o.candidate bytes).isSome).closeStep := by
  rw [exec_readBackEnd_journal s bytes a op]
  simp [State.journalReadBackEnd, opening, ho, stage]

end

/-! ## The opening complete -/

section
variable (s : State) (o : Opening)

/-- After the checkpoint's last position the opening is complete (R81). -/
theorem State.positionWritten_last (q : Nat) (behindHead : 1 ≤ q) (last : o.images.length ≤ q) :
    s.positionWritten o q = s.completeOpening o := by
  simp [State.positionWritten, Nat.ne_of_gt behindHead, Nat.not_lt.mpr last]

/-- The roles that a complete opening moves, the usable flag given being that of the previous sector (R81). -/
theorem State.moveRoles_eq (usable : Bool) (flag : ∀ p, s.journal.previous = some p → s.tables.usable p = usable) :
    s.journal.moveRoles o usable = s.rolesMoved o := by
  simp only [Journal.moveRoles, State.rolesMoved, Journal.setPendingErase]
  cases previous : s.journal.previous with
  | none => rfl
  | some p =>
    by_cases stale : usable = true ∧ p ≠ o.candidate
    · simp only [flag p previous, if_pos stale]
    · simp only [flag p previous, if_neg stale]

/-- The entry that an opening was made for is appended behind the checkpoint (R81). -/
theorem State.completeOpening_entry (who : Requester) (e : Payload) (rest : List JournalRequest)
    (hq : s.journal.requests = .append who e :: rest) (purpose : o.purpose = .entry) :
    s.completeOpening o =
      ({ s with journal := { s.rolesMoved o with activity := .appending } } : State).journalAsks who
        (.program (o.candidate * 4096 + (o.images.length + 1) * 16) (payloadImage e)) := by
  have appends : s.completeOpening o = (s.withJournal (s.rolesMoved o)).appendEntry := by
    simp only [State.completeOpening, purpose]
    rw [State.moveRoles_eq s o _ fun p previous => by rw [previous]]
  rw [appends]
  exact (s.withJournal (s.rolesMoved o)).appendEntry_asks who e rest hq

/-- A recording ends with its opening, and the erase engine's turn with it (R84). -/
theorem State.completeOpening_recording (first : JournalRequest) (rest : List JournalRequest)
    (hq : s.journal.requests = first :: rest) (purpose : o.purpose = .recording) :
    s.completeOpening o = ({ s with journal := { s.rolesMoved o with requests := rest, activity := .idle } } : State).endTurn := by
  have ends : s.completeOpening o = (s.withJournal (s.rolesMoved o).endRequest).endTurn := by
    simp only [State.completeOpening, purpose]
    rw [State.moveRoles_eq s o _ fun p previous => by rw [previous]]
    rfl
  rw [ends, Journal.endRequest, show (s.rolesMoved o).requests = first :: rest from hq]
  rfl

/-! ## A candidate failed -/

/-- An opening abandoned with the map in force fails its request (R82). -/
theorem State.abandonOpening_inForce (inForce : o.purpose.isMount = false) (leftValid : Bool) :
    s.abandonOpening o leftValid = s.failRequest := by
  unfold State.abandonOpening
  cases purpose : o.purpose with
  | entry => rfl
  | recording => rfl
  | format => simp [purpose, OpenPurpose.isMount] at inForce
  | mount => simp [purpose, OpenPurpose.isMount] at inForce

/-- All that can follow a candidate that is withdrawn and leaves no valid head (R82). -/
theorem State.nextCandidate_candidatePassed (first : JournalRequest) (rest : List JournalRequest)
    (hq : s.journal.requests = first :: rest) (law : s.StagingLaw) (inForce : o.purpose = .entry ∨ o.purpose = .recording) :
    s.CandidatePassed (s.nextCandidate o false) o first.requester where
  next a c clear enough ha found := by
    have takes : s.nextCandidate o false = s.tryCandidate o.purpose o.number c := by
      have many : ¬usableCount s.tables.usableFlags < 3 := by rw [Tables.usableCount_flags]; omega
      simp [State.nextCandidate, OpenPurpose.isMount_eq_false inForce, clear, many, ha, s.nextUsable_of_nextSector a c found]
    rw [takes]
    exact s.tryCandidate_taken o.purpose o.number c first rest hq inForce
  abandoned stuck := by
    have notMount := OpenPurpose.isMount_eq_false inForce
    have abandons : s.nextCandidate o false = s.failRequest := by
      rw [← Tables.usableCount_flags] at stuck
      simp [State.nextCandidate, notMount, stuck, s.abandonOpening_inForce o notMount]
    rw [abandons]
    exact s.failRequest_requestFailed law

/-- A candidate whose head stays valid raises the sequence, sets the latch and abandons the opening (R82). -/
theorem State.nextCandidate_leftValid (inForce : o.purpose.isMount = false) :
    s.nextCandidate o true = ({ s with journal := { s.journal with sequence := some o.number } } : State).latched.failRequest := by
  simp [State.nextCandidate, inForce, State.setLatch_eq, State.abandonOpening_inForce _ o inForce, State.withJournal]

/-- A candidate whose erase failed is withdrawn, and the opening goes on from there (R82, R83). -/
theorem State.journalEraseEnd_failed (inForce : o.purpose.isMount = false) (ho : s.journal.opening = some o)
    (stage : o.stage = .erase) : s.journalEraseEnd true = (s.withdrawn o.candidate).nextCandidate o false := by
  simp [State.journalEraseEnd, ho, stage, State.candidateFailed, s.withdrawCandidate_inForce o inForce]

end

/-! ## The life of an opening -/

/-- Settles O56: `State.beginRequest_requestBegun` says all that the begin does; each end of an opening's operation leads to the stage
that follows, to the opening's end, or to `State.nextCandidate`. -/
theorem fullSectorOpensNextUsable : Obligations.FullSectorOpensNextUsable := by
  refine ⟨fun s law idle _ => ⟨_, exec_journalNextRequest_idle s idle, s.beginRequest_requestBegun law⟩, ?_⟩
  rintro s c o _ first rest law opening ho hq rfl purposes after answers address goesOn
  have purpose : o.purpose = .entry ∨ o.purpose = .recording := purposes.imp And.left And.left
  have inForce := OpenPurpose.isMount_eq_false purpose
  have kept : after.StagingLaw := law.congr rfl rfl rfl
  refine ⟨?erased, ?verified, ?head, ?next, ?last, ?failed, ?void, ?judged⟩
  case erased =>
    rintro st e p x rfl op erasing user running ready stage ended
    have outcome := exec_eraseEnd_journal s st e p x op erasing user running ready
    refine ⟨fun passed => ?_, fun failed => ?_⟩
    · rw [passed, ((s.withOp none).withErasing none).journalEraseEnd_head o first rest hq opening inForce ho stage] at outcome
      exact outcome
    · rw [failed, ((s.withOp none).withErasing none).journalEraseEnd_failed o inForce ho stage] at outcome
      have lawful : ended.StagingLaw := law.congr rfl rfl rfl
      exact ⟨_, outcome, State.nextCandidate_candidatePassed _ o first rest (by rw [State.withdrawn_journal]; exact hq)
        (lawful.withdrawn o.candidate) purpose⟩
  case verified =>
    rintro st a data since q rfl stage op ready passed verify
    have ended := exec_programEnd_journal s st a data since op ready
    rw [passed, (s.withOp none).journalProgramEnd_checks o first rest hq opening inForce ho q stage verify] at ended
    exact ended
  case head =>
    intro good images
    have written := exec_positionGood s o opening ho c 0 inForce good
    rw [(s.withOp none).positionWritten_head o first rest hq opening inForce] at written
    exact written
  case next =>
    intro q good behindHead more
    have written := exec_positionGood s o opening ho c q inForce good
    rw [(s.withOp none).positionWritten_next o first rest hq opening inForce q behindHead more] at written
    exact written
  case last =>
    intro q good behindHead last
    have complete := exec_positionGood s o opening ho c q inForce good
    rw [(s.withOp none).positionWritten_last o q behindHead last] at complete
    rcases purposes with ⟨entry, e, he⟩ | ⟨recording, p, hp⟩
    · refine ⟨fun d hd => ?_, fun p hp => by simp [hp] at he⟩
      have heads : (s.withOp none).journal.requests = .append first.requester d :: rest := hq.trans (congrArg (· :: rest) hd)
      rw [(s.withOp none).completeOpening_entry o _ d rest heads entry] at complete
      exact complete
    · refine ⟨fun e he => by simp [hp] at he, fun _ _ => ?_⟩
      rw [(s.withOp none).completeOpening_recording o first rest hq recording] at complete
      exact ⟨_, complete, State.endTurn_turnEnded _⟩
  case failed =>
    intro bad w
    have voids := exec_positionBad s o opening ho c bad
    rw [(s.withOp none).candidateFailed_issued o first rest hq opening inForce] at voids
    exact voids
  case void =>
    rintro st a data since rfl stage op ready
    have ended := exec_programEnd_journal s st a data since op ready
    rw [(s.withOp none).journalProgramEnd_void o first rest hq opening inForce ho stage] at ended
    exact ended
  case judged =>
    rintro bytes a rfl stage op
    have judged := exec_voidCheck s o opening ho bytes a stage op
    refine ⟨fun noHead => ?_, fun n head => ?_⟩
    · rw [noHead] at judged
      exact ⟨_, judged, after.nextCandidate_candidatePassed o first rest hq kept purpose⟩
    · rw [head, Option.isSome_some, (s.withOp none).nextCandidate_leftValid o inForce] at judged
      exact ⟨_, judged, State.failRequest_requestFailed _ (State.StagingLaw.latched (kept.congr rfl rfl rfl))⟩

end Sys2Proof.Machine
end

section
namespace Sys2Proof.Machine

/-! ## ERASE_ENGINE_REQUEST and ERASE_END -/

/-- ERASE_ENGINE_REQUEST of an idle erase engine with work in READY requests the link (R95). -/
theorem exec_eraseEngineRequest_due (s : State) (idle : s.pool.eraser = .idle) (ready : s.ctl.mode = .ready)
    (work : s.hasEraseWork) :
    exec .eraseEngineRequest s = .next
      ({ s with
          pool := { s.pool with eraser := .requesting }
          link := { s.link with requests := { s.link.requests with erase := true } } } : State).closeStep := by
  have due : s.turnDue = true := by simp [State.turnDue, idle, ready, s.eraseWork_iff.mpr work]
  simp [exec, execEraseEngineRequest, State.lookForWork, due, State.withEraser, State.withPool, State.withRequests, State.withLink]

/-- The status that ends an erase hands its outcome to the block it was for, on a link without operation or erase record (R109,
R111). -/
theorem exec_eraseEnd (s : State) (st : Byte) (e : EraseRecord) (user : LinkUser) (p x : Nat)
    (op : s.link.op = some { user := user, op := .erase p, stage := .polling x }) (erasing : s.link.erasing = some e)
    (running : e.progress = .running) (ready : st.getLsbD 0 = false) :
    exec (.eraseEnd st) s = .next (State.closeStep
      (({ s with link := { s.link with op := none, erasing := none } } : State).eraseOutcome e.user e.sector (st.getLsbD 3))) := by
  have ready : busyFlag st = false := ready
  simp [exec, execEraseEnd, op, erasing, running, ready, State.endErase, failFlag, State.withErasing, State.withOp, State.withLink]

/-! ## The latch set, and sectors withdrawn -/

theorem State.latched_degraded (s : State) : s.latched.ctl.degraded = true := by
  by_cases already : s.ctl.degraded = true <;> simp [State.latched, already]

/-- A sector withdrawn is not usable (R83). -/
theorem State.withdrawn_unusable (s : State) (p : Nat) (journalSector : p < 8) : (s.withdrawn p).tables.usable p = false := by
  have tables : (s.withdrawn p).tables = s.tables.setUsable p false := by
    rw [← State.withdrawUsable_eq, State.withdrawUsable]
    split <;> simp
  simp [tables, Tables.usable, Tables.setUsable, Tables.record_setRecord, show p < 512 by omega]

/-- A withdrawal that leaves the latch clear has not set it, and so leaves the pool and the link (R83, R165). -/
theorem State.withdrawn_frame (s : State) (p : Nat) (clear : (s.withdrawn p).ctl.degraded = false) :
    (s.withdrawn p).pool = s.pool ∧ (s.withdrawn p).link = s.link := by
  simp only [State.withdrawn] at clear ⊢
  split at clear
  next => simp [State.latched_degraded] at clear
  next many => rw [if_neg many]; exact ⟨rfl, rfl⟩

/-! ## The end of a spare's erase -/

section
variable (s : State) (p : Nat)

/-- A dirty spare erased is clean in its place on the list (R15). -/
theorem State.spareErased_of_dirty (dirty : (s.tables.record p).state = some .spareDirty) :
    s.spareErased p = { s with tables := s.tables.setRecord p { s.tables.record p with state := some .spareClean } } := by
  simp [State.spareErased, dirty, State.withTables, Tables.setState]

/-- A dirty spare erased for the pool ends the turn (R95, R98). -/
theorem State.spareEraseEnd_passed (dirty : (s.tables.record p).state = some .spareDirty) :
    ({ s with tables := s.tables.setRecord p { s.tables.record p with state := some .spareClean } } : State).TurnEnded
      (s.spareEraseEnd p false) := by
  have ends : s.spareEraseEnd p false = (s.spareErased p).endTurn := by simp [State.spareEraseEnd]
  rw [ends, s.spareErased_of_dirty p dirty]
  exact State.endTurn_turnEnded _

/-- A spare whose erase failed is marked and its RETIRE requested, room being left for it (R99, R8). -/
theorem State.spareEraseEnd_room (law : s.StagingLaw) (room : s.mayRetire = true) :
    ({ s with
        tables := s.tables.setRecord p { s.tables.record p with retirePending := true }
        pool := { s.pool with eraser := .retiring p } } : State).RequestTaken (s.spareEraseEnd p true)
      (.append .eraseEngine (.retire p .eraseFail)) := by
  have requests : s.spareEraseEnd p true =
      ((s.markRetirePending p).withEraser (.retiring p)).addRequest (.append .eraseEngine (.retire p .eraseFail)) := by
    simp [State.spareEraseEnd, room]
  rw [requests]
  exact State.addRequest_requestTaken _ _ (law.congr rfl rfl rfl)

/-- A spare whose erase failed at the cap of retired sectors sets the latch and ends the turn (R99, R8). -/
theorem State.spareEraseEnd_capped (full : ¬s.mayRetire = true) : s.latched.TurnEnded (s.spareEraseEnd p true) := by
  have ends : s.spareEraseEnd p true = s.latched.endTurn := by simp [State.spareEraseEnd, full, State.setLatch_eq]
  rw [ends]
  exact State.endTurn_turnEnded _

/-! ## The end of an erase for allocation -/

variable (j : Job) (hj : s.engine.job = some j)
include hj

/-- A spare erased for allocation is clean, and a target is asked for again (R55). -/
theorem State.commitEraseEnd_passed (law : s.StagingLaw) (dirty : (s.tables.record p).state = some .spareDirty) :
    ({ s with tables := s.tables.setRecord p { s.tables.record p with state := some .spareClean } } : State).TargetAnswered
      (s.commitEraseEnd p false) j := by
  have asks : s.commitEraseEnd p false = (s.spareErased p).requestTarget := by simp [State.commitEraseEnd, hj]
  rw [asks, s.spareErased_of_dirty p dirty]
  exact State.requestTarget_targetAnswered _ j (law.congr rfl rfl rfl) hj

/-- A spare whose erase for allocation failed is marked, and the job waits for its RETIRE, room being left for it (R55, R8). -/
theorem State.commitEraseEnd_room (law : s.StagingLaw) (room : s.mayRetire = true) :
    ({ s with
        engine := { s.engine with job := some { j with awaited := some .retireSpare } }
        tables := s.tables.setRecord p { s.tables.record p with retirePending := true } } : State).RequestTaken
      (s.commitEraseEnd p true) (.append .commitEngine (.retire p .eraseFail)) := by
  have requests : s.commitEraseEnd p true =
      ((s.markRetirePending p).withJob (some { j with awaited := some .retireSpare })).addRequest
        (.append .commitEngine (.retire p .eraseFail)) := by
    simp [State.commitEraseEnd, hj, room]
  rw [requests]
  exact s.addRequest_retire_requestTaken j _ p .eraseFail law hj rfl nofun

/-- At the cap of retired sectors the failed erase sets the latch, which refuses the target request and so abandons the job (R54,
R55, R61). -/
theorem State.commitEraseEnd_capped (law : s.StagingLaw) (full : ¬s.mayRetire = true) :
    s.latched.JobAbandoned (s.commitEraseEnd p true) j := by
  have hj' : s.latched.engine.job = some j := s.latched_engine ▸ hj
  have asks : s.commitEraseEnd p true = s.latched.requestTarget := by
    simp [State.commitEraseEnd, hj, full, State.setLatch_eq]
  rw [asks]
  exact (s.latched.requestTarget_targetAnswered j law.latched hj').refused s.latched_degraded

end

/-! ## An opening that waits to erase the sector that the erase engine has erased -/

/-- The opening o for an append of the commit engine waits for the link to erase its candidate p (R79, R84). -/
def State.awaitsErase (s : State) (o : Opening) (p : Nat) : Prop :=
  s.journal.opening = some o ∧ o.purpose = .entry ∧ o.candidate = p ∧ o.stage = .erase ∧
    s.link.requests.commit = some (.journal, .erase p) ∧ s.link.requests.eraseJournal = none ∧
    ∃ l rest, s.journal.requests = .append .commitEngine l :: rest

/-- The request of the commit level withdrawn. -/
def State.withoutCommitRequest (s : State) : State :=
  { s with link := { s.link with requests := { s.link.requests with commit := none } } }

section
variable (s : State) (o : Opening) (p : Nat)

/-- An opening that does not wait to erase the sector erased is left as it is (R84). -/
theorem State.openingFinds_untouched (untouched : ∀ o, s.journal.opening = some o → o.stage ≠ .erase ∨ o.candidate ≠ p)
    (fail : Bool) : s.openingFinds p fail = s := by
  unfold State.openingFinds
  split
  next o ho => exact if_neg fun ⟨stage, candidate⟩ => (untouched o ho).elim (· stage) (· candidate)
  next => rfl

/-- A waiting opening withdraws its erase, and takes the same candidate again or goes on to the next (R84). -/
theorem State.openingFinds_awaits (waits : s.awaitsErase o p) (fail : Bool) :
    s.openingFinds p fail =
      if fail then s.withoutCommitRequest.nextCandidate o false else s.withoutCommitRequest.tryCandidate .entry o.number p := by
  obtain ⟨ho, purpose, candidate, stage, commit, noJournal, -⟩ := waits
  have withdraws : s.withRequests (s.link.requests.withoutErase p) = s.withoutCommitRequest := by
    simp [Requests.withoutErase, commit, noJournal, State.withRequests, State.withLink, State.withoutCommitRequest]
  simp [State.openingFinds, ho, purpose, candidate, stage, withdraws]

theorem State.awaitsErase.congr {s t : State} {o : Opening} {p : Nat} (waits : s.awaitsErase o p) (journal : t.journal = s.journal)
    (link : t.link = s.link) : t.awaitsErase o p := by
  rwa [State.awaitsErase, journal, link]

/-- The end of a turn leaves the opening waiting: it touches the request of the erase level alone (R95). -/
theorem State.awaitsErase.endTurn {s : State} {o : Opening} {p : Nat} (waits : s.awaitsErase o p) : s.endTurn.awaitsErase o p := by
  rw [State.endTurn_eq]
  split <;> exact waits

/-- A waiting opening whose candidate is no longer pending, nor the previous sector, writes its head at once (R84, R79). -/
theorem State.openingFinds_passed (waits : s.awaitsErase o p) (erased : flagAt s.journal.pendingErase p = false)
    (notPrevious : s.journal.previous ≠ some p) :
    s.openingFinds p false =
      ({ s with
        journal :=
          { s.journal with
            activity := .opening
            opening := some { purpose := .entry, candidate := p, number := o.number, stage := .program 0, images := [] } } } :
              State).journalAsks .commitEngine (.program (p * 4096) (headImage o.number p)) := by
  have finds := s.openingFinds_awaits o p waits false
  obtain ⟨-, -, -, -, -, -, l, rest, hq⟩ := waits
  rw [finds]
  exact (s.withoutCommitRequest.tryCandidate_taken .entry o.number p _ rest hq (.inl rfl)).written erased notPrevious

/-- A waiting opening whose candidate is withdrawn, the latch clear and three or more usable, takes the next usable sector with the
same number (R84, R82). -/
theorem State.openingFinds_failed (law : s.StagingLaw) (waits : s.awaitsErase o p) (clear : s.ctl.degraded = false)
    (enough : 3 ≤ (List.range 8).countP fun k => s.tables.usable k) (a c : Nat) (ha : s.journal.active = some a)
    (next : s.nextSector a c) :
    s.withoutCommitRequest.CandidateTaken (s.openingFinds p true) .entry o.number c .commitEngine := by
  have finds := s.openingFinds_awaits o p waits true
  obtain ⟨-, purpose, -, -, -, -, l, rest, hq⟩ := waits
  have passes := s.withoutCommitRequest.nextCandidate_candidatePassed o (.append .commitEngine l) rest hq (law.congr rfl rfl rfl)
    (.inl purpose)
  rw [finds, ← purpose]
  exact passes.next a c clear enough ha next

end

/-! ## The opening that a request begins -/

/-- A sector found as the next usable one is usable (R68). -/
theorem Tables.usable_of_nextUsable (t : Tables) (a c : Nat) (found : nextUsable t.usableFlags a = some c) : t.usable c = true := by
  obtain ⟨i, -, rfl⟩ := List.mem_map.mp (List.mem_of_find?_eq_some found)
  rw [← t.flagAt_usableFlags _ (Nat.mod_lt _ (by decide))]
  exact List.find?_some found

/-- A request that fails leaves no opening (R75, R77). -/
theorem State.failRequest_opening (s : State) : s.failRequest.journal.opening = none := by
  unfold State.failRequest
  split <;> simp [Journal.endRequest]

/-- A candidate taken is the opening's (R79). -/
theorem State.CandidateTaken.opening {s t : State} {p : OpenPurpose} {number c : Nat} {who : Requester}
    (taken : s.CandidateTaken t p number c who) : ∃ o, t.journal.opening = some o ∧ o.candidate = c := by
  by_cases stale : flagAt s.journal.pendingErase c = true ∨ s.journal.previous = some c
  · exact ⟨_, by rw [taken.erased stale]; rfl, rfl⟩
  · obtain ⟨clear, other⟩ := not_or.mp stale
    exact ⟨_, by rw [taken.written (by simpa using clear) other]; rfl, rfl⟩

/-- An opening begun to record a withdrawal has a usable candidate (R79, R84). -/
theorem State.beginOpening_recording_usable (s : State) (first : JournalRequest) (rest : List JournalRequest)
    (hq : s.journal.requests = first :: rest) (o : Opening) (opened : (s.beginOpening .recording).journal.opening = some o) :
    s.tables.usable o.candidate = true := by
  unfold State.beginOpening at opened
  split at opened
  next a n _ _ =>
    split at opened
    next => simp [State.failRequest_opening] at opened
    next =>
      split at opened
      next c found =>
        obtain ⟨x, hx, rfl⟩ := (s.tryCandidate_taken .recording (n + 1) c first rest hq (.inr rfl)).opening
        obtain rfl := Option.some.inj (hx.symm.trans opened)
        exact s.tables.usable_of_nextUsable a _ found
      next => simp [State.failRequest_opening] at opened
  next => simp [State.failRequest_opening] at opened

/-- A recording asked for leaves the opening there is, or begins one of a usable candidate (R75, R84). -/
theorem State.addRequest_record_opening (s : State) (p : Nat) (o : Opening)
    (opened : (s.addRequest (.record p)).journal.opening = some o) :
    s.journal.opening = some o ∨ s.tables.usable o.candidate = true := by
  by_cases idle : s.journal.requests = []
  · have begins : s.addRequest (.record p) =
        if s.ctl.degraded then (s.withJournal { s.journal with requests := [.record p] }).failRequest
        else (s.withJournal { s.journal with requests := [.record p] }).beginOpening .recording := by
      simp [State.addRequest, State.beginRequest, idle]
    rw [begins] at opened
    split at opened
    · simp [State.failRequest_opening] at opened
    · have usable := State.beginOpening_recording_usable _ (.record p) [] rfl o opened
      exact .inr usable
  · rw [State.addRequest, if_neg (by simp [idle])] at opened
    exact .inl opened

/-! ## The end of a stale journal sector's erase -/

theorem flagAt_setIfInBounds_false (v : Vector Bool Config.journalSectors) (j : Nat) : flagAt (v.setIfInBounds j false) j = false := by
  simp only [flagAt, Vector.getElem?_setIfInBounds_self]
  split <;> rfl

/-- The journal may open a sector: the latch clear and three or more sectors usable (R82, R84). -/
def State.mayOpen (s : State) : Prop :=
  s.ctl.degraded = false ∧ 3 ≤ (List.range 8).countP fun k => s.tables.usable k

/-- The recording of Jp's withdrawal waiting behind the requests there are, the erase engine waiting for it (R75, R84). -/
def State.recordingQueued (s : State) (p : Nat) : State :=
  { s with
    pool := { s.pool with eraser := .recording p }
    journal := { s.journal with requests := s.journal.requests ++ [.record p] } }

/-- A recording asked for behind the append of a waiting opening waits in the list, and the opening takes the next usable sector
(R84, R75). -/
theorem State.openingFinds_recording (s : State) (o : Opening) (p : Nat) (law : s.StagingLaw) (waits : s.awaitsErase o p)
    (may : s.mayOpen) (a c : Nat) (ha : s.journal.active = some a) (next : s.nextSector a c) :
    (s.recordingQueued p).withoutCommitRequest.CandidateTaken
      (((s.withEraser (.recording p)).addRequest (.record p)).openingFinds p true) .entry o.number c .commitEngine := by
  obtain ⟨ho, purpose, candidate, stage, commit, noJournal, l, rest, hq⟩ := waits
  have lawful : (s.withEraser (.recording p)).StagingLaw := law.congr rfl rfl rfl
  have joins : (s.withEraser (.recording p)).addRequest (.record p) = s.recordingQueued p :=
    (State.addRequest_requestTaken _ _ lawful).waits (by simp [hq])
  have waits : (s.recordingQueued p).awaitsErase o p :=
    ⟨ho, purpose, candidate, stage, commit, noJournal, l, rest ++ [.record p], by simp [State.recordingQueued, hq]⟩
  rw [joins]
  exact (s.recordingQueued p).openingFinds_failed o p (law.congr rfl rfl rfl) waits may.1 may.2 a c ha next

section
variable (s : State) (p : Nat)

/-- A stale sector erased is no longer pending, and the turn ends (R97). -/
theorem State.journalSectorErased_passed :
    s.journalSectorErased p false =
      ({ s with journal := { s.journal with pendingErase := s.journal.pendingErase.setIfInBounds p false } } :
        State).endTurn.openingFinds p false := rfl

/-- A stale sector whose erase failed is withdrawn, the withdrawal to be recorded if the journal may open a sector (R84, R97). -/
theorem State.journalSectorErased_recorded (may : (s.withdrawn p).mayOpen) :
    s.journalSectorErased p true = (((s.withdrawn p).withEraser (.recording p)).addRequest (.record p)).openingFinds p true := by
  obtain ⟨clear, enough⟩ := may
  simp [State.journalSectorErased, State.withdrawUsable_eq, Tables.usableCount_flags, clear, enough]

/-- With the latch set or fewer than three usable the turn ends, the withdrawal unrecorded (R84, R97). -/
theorem State.journalSectorErased_unrecorded (mayNot : ¬(s.withdrawn p).mayOpen) :
    s.journalSectorErased p true = (s.withdrawn p).endTurn.openingFinds p true := by
  rw [State.mayOpen] at mayNot
  simp [State.journalSectorErased, State.withdrawUsable_eq, Tables.usableCount_flags, if_neg mayNot]

/-- A waiting opening whose candidate the erase engine has erased writes its head in the same step (R84, R97). -/
theorem State.journalSectorErased_passed_awaited (o : Opening) (waits : s.awaitsErase o p)
    (notPrevious : s.journal.previous ≠ some p) :
    let t := ({ s with journal := { s.journal with pendingErase := s.journal.pendingErase.setIfInBounds p false } } : State).endTurn
    s.journalSectorErased p false =
      ({ t with
        journal :=
          { t.journal with
            activity := .opening
            opening := some { purpose := .entry, candidate := p, number := o.number, stage := .program 0, images := [] } } } :
              State).journalAsks .commitEngine (.program (p * 4096) (headImage o.number p)) := by
  intro t
  have waits : t.awaitsErase o p := State.awaitsErase.endTurn waits
  rw [s.journalSectorErased_passed p]
  refine t.openingFinds_passed o p waits ?_ ?_
  · rw [State.endTurn_journal]
    exact flagAt_setIfInBounds_false s.journal.pendingErase p
  · rwa [State.endTurn_journal]

/-- A waiting opening whose candidate is withdrawn takes the next usable sector in the same step, and the withdrawal waits in the
list to be recorded (R84, R97). -/
theorem State.journalSectorErased_failed_awaited (law : s.StagingLaw) (o : Opening) (waits : s.awaitsErase o p)
    (may : (s.withdrawn p).mayOpen) (a c : Nat) (ha : s.journal.active = some a) (next : (s.withdrawn p).nextSector a c) :
    ((s.withdrawn p).recordingQueued p).withoutCommitRequest.CandidateTaken
      (s.journalSectorErased p true) .entry o.number c .commitEngine := by
  rw [s.journalSectorErased_recorded p may]
  exact State.openingFinds_recording _ o p (law.withdrawn p) (waits.congr (s.withdrawn_journal p) (s.withdrawn_frame p may.1).2)
    may a c (by rwa [s.withdrawn_journal]) next

/-- The recording of a withdrawal opens another sector than the one withdrawn (R79, R84). -/
theorem State.journalSectorErased_failed_untouched (journalSector : p < 8)
    (untouched : ∀ o, s.journal.opening = some o → o.stage ≠ .erase ∨ o.candidate ≠ p) (may : (s.withdrawn p).mayOpen) :
    s.journalSectorErased p true = ((s.withdrawn p).withEraser (.recording p)).addRequest (.record p) := by
  rw [s.journalSectorErased_recorded p may]
  refine State.openingFinds_untouched _ _ (fun o opened => ?_) true
  rcases State.addRequest_record_opening _ p o opened with before | usable
  · exact untouched o (s.withdrawn_journal p ▸ before)
  · refine .inr fun withdrawn => ?_
    have unusable := s.withdrawn_unusable p journalSector
    rw [State.withEraser_tables, withdrawn, unusable] at usable
    contradiction

end

/-! ## The turn and the ends -/

/-- Settles O57: `exec_eraseEnd` hands each end to the block the erase was for; `State.spareEraseEnd`, `State.journalSectorErased` and
`State.commitEraseEnd` then go each of the ways stated. -/
theorem eraseEngineRequestsAndEnds : Obligations.EraseEngineRequestsAndEnds := by
  refine ⟨exec_eraseEngineRequest_due, ?_⟩
  rintro s e x p st op erasing rfl running ready law ended cleaned marked cleared room withdrawn recordable awaiting untouched answers
  have outcome := exec_eraseEnd s st e e.user e.sector x op erasing running ready
  have kept : ended.StagingLaw := law.congr rfl rfl rfl
  refine ⟨fun user activity => ?spare, fun user activity small => ?journal, fun j user hj => ?allocation⟩
  case spare =>
    have ends : ended.eraseOutcome e.user e.sector (st.getLsbD 3) = ended.spareEraseEnd e.sector (st.getLsbD 3) := by
      simp [State.eraseOutcome, user, State.eraserEraseEnd, ended, activity]
    replace outcome : answers (ended.spareEraseEnd e.sector (st.getLsbD 3)) := ends ▸ outcome
    refine ⟨fun passed dirty => ?_, fun failed hasRoom => ?_, fun failed full => ?_⟩
    · exact ⟨_, passed ▸ outcome, ended.spareEraseEnd_passed e.sector dirty⟩
    · exact ⟨_, failed ▸ outcome, ended.spareEraseEnd_room e.sector kept (ended.mayRetire_iff.mpr hasRoom)⟩
    · exact ⟨_, failed ▸ outcome, ended.spareEraseEnd_capped e.sector (mt ended.mayRetire_iff.mp full)⟩
  case journal =>
    have ends : ended.eraseOutcome e.user e.sector (st.getLsbD 3) = ended.journalSectorErased e.sector (st.getLsbD 3) := by
      simp [State.eraseOutcome, user, State.eraserEraseEnd, ended, activity]
    replace outcome : answers (ended.journalSectorErased e.sector (st.getLsbD 3)) := ends ▸ outcome
    have journal : withdrawn.journal = s.journal := ended.withdrawn_journal e.sector
    refine ⟨fun passed free => ?_, fun o passed waits notPrevious => ?_, fun failed may free => ?_, fun failed mayNot free => ?_,
      fun o a c failed may waits ha next => ?_⟩
    · rw [passed, ended.journalSectorErased_passed, State.openingFinds_untouched _ _ (by rwa [State.endTurn_journal])] at outcome
      exact ⟨_, outcome, cleared.endTurn_turnEnded⟩
    · rw [passed, ended.journalSectorErased_passed_awaited e.sector o waits notPrevious] at outcome
      exact ⟨_, cleared.endTurn_turnEnded, outcome⟩
    · rw [failed, ended.journalSectorErased_failed_untouched e.sector small free may] at outcome
      have pool : withdrawn.pool = s.pool := (ended.withdrawn_frame e.sector may.1).1
      rw [← pool]
      exact ⟨_, outcome, State.addRequest_requestTaken _ _ ((kept.withdrawn e.sector).congr rfl rfl rfl)⟩
    · rw [failed, ended.journalSectorErased_unrecorded e.sector mayNot,
        State.openingFinds_untouched _ _ (by rwa [State.endTurn_journal, ended.withdrawn_journal])] at outcome
      exact ⟨_, outcome, withdrawn.endTurn_turnEnded⟩
    · have pool : withdrawn.pool = s.pool := (ended.withdrawn_frame e.sector may.1).1
      rw [failed] at outcome
      rw [← journal, ← pool]
      exact ⟨_, outcome, ended.journalSectorErased_failed_awaited e.sector kept o waits may a c ha next⟩
  case allocation =>
    have ends : ended.eraseOutcome e.user e.sector (st.getLsbD 3) = ended.commitEraseEnd e.sector (st.getLsbD 3) := by
      simp [State.eraseOutcome, user]
    replace outcome : answers (ended.commitEraseEnd e.sector (st.getLsbD 3)) := ends ▸ outcome
    refine ⟨fun passed dirty => ?_, fun failed hasRoom => ?_, fun failed full => ?_⟩
    · exact ⟨_, passed ▸ outcome, ended.commitEraseEnd_passed e.sector j hj kept dirty⟩
    · exact ⟨_, failed ▸ outcome, ended.commitEraseEnd_room e.sector j hj kept (ended.mayRetire_iff.mpr hasRoom)⟩
    · exact ⟨_, failed ▸ outcome, ended.commitEraseEnd_capped e.sector j hj kept (mt ended.mayRetire_iff.mp full)⟩

end Sys2Proof.Machine
end

section
namespace Sys2Proof.Machine

/-! ## What a step drives on the link -/

/-- PROGRAM or ERASE. -/
def LinkEvent.isWrite : LinkEvent → Bool
  | .program _ _ => true
  | .erase _ => true
  | _ => false

/-- No event of kind k begins an operation on a flash in power state p: neither of the two of a wake is of kind k (R124, R128), and
on a flash that needs none only PROGRAM and ERASE are, which begin no operation (R110). -/
structure PowerState.Silent (p : PowerState) (k : LinkEvent → Bool) : Prop where
  closeStream : k .closeStream = false
  powerUp : k .powerUp = false
  awake : p.needsWake = false → ∀ e, e.isWrite = false → k e = false

theorem PowerState.silent_isWrite (p : PowerState) : p.Silent LinkEvent.isWrite :=
  ⟨rfl, rfl, fun _ _ h => h⟩

theorem State.closeStream_filter (s : State) (k : LinkEvent → Bool) (hk : k .closeStream = false) :
    s.closeStream.wire.filter k = s.wire.filter k := by
  rw [State.closeStream_eq]
  cases s.link.stream <;> simp [hk]

/-- Every first command is an event of a wake or no PROGRAM or ERASE (R109, R110). -/
theorem State.firstCommand_filter (s : State) (k : LinkEvent → Bool) (user : LinkUser) (o : FlashOp)
    (hk : ∀ e : LinkEvent, e.isWrite = false → k e = false) :
    (s.firstCommand user o).wire.filter k = s.wire.filter k := by
  have closes := s.closeStream_filter k (hk _ rfl)
  have reads := fun addr len => hk (.read addr len) rfl
  have enables : k .enableWrite = false ∧ k .status = false := ⟨hk _ rfl, hk _ rfl⟩
  cases o with
  | hostRun run addr =>
    simp only [State.firstCommand]
    split
    · simp [hk (.continueRead run.len) rfl]
    · simp [State.beginRead, closes, reads]
  | pageRead addr => simp [State.firstCommand, State.beginRead, closes, reads]
  | readBack addr len => simp [State.firstCommand, State.beginRead, closes, reads]
  | mountRead addr len => simp [State.firstCommand, State.beginRead, closes, reads]
  | program addr data => simp [State.firstCommand, closes, enables]
  | erase p => simp [State.firstCommand, closes, enables]
  | wake => simp [State.firstCommand, closes, hk .powerUp rfl]
  | identify => simp [State.firstCommand, closes, hk .identify rfl]
  | settle => simp [State.firstCommand, closes, hk .poll rfl]

section
variable {k : LinkEvent → Bool} {s : State} (silent : s.link.power.Silent k)
include silent

theorem State.startOp_filter (user : LinkUser) (o : FlashOp) : (s.startOp user o).wire.filter k = s.wire.filter k := by
  have closes := s.closeStream_filter k silent.closeStream
  unfold State.startOp
  split
  · simp [closes, silent.powerUp]
  · next awake =>
    by_cases asleep : s.link.power.needsWake = true
    · obtain rfl : o = .wake := by simpa [asleep] using awake
      simp [State.firstCommand, closes, silent.powerUp]
    · exact s.firstCommand_filter k user o (silent.awake (by simpa using asleep))

theorem State.journalOp_filter (o : FlashOp) : (s.journalOp o).wire.filter k = s.wire.filter k := by
  unfold State.journalOp
  split
  · exact State.startOp_filter silent _ o
  · exact State.startOp_filter silent _ o
  · split
    · rfl
    · split <;> simp

theorem State.appendEntry_filter : s.appendEntry.wire.filter k = s.wire.filter k := by
  unfold State.appendEntry
  split
  · rfl
  · exact State.journalOp_filter (by exact silent) _

theorem State.writePosition_filter (o : Opening) (q : Nat) : (s.writePosition o q).wire.filter k = s.wire.filter k :=
  State.journalOp_filter (by exact silent) _

theorem State.tryCandidate_filter (p : OpenPurpose) (number c : Nat) :
    (s.tryCandidate p number c).wire.filter k = s.wire.filter k := by
  simp only [State.tryCandidate]
  split_ifs
  · exact State.journalOp_filter (by exact silent) _
  · exact State.writePosition_filter silent _ 0

theorem State.beginOpening_filter (p : OpenPurpose) : (s.beginOpening p).wire.filter k = s.wire.filter k := by
  unfold State.beginOpening
  split
  · split
    · simp
    · split
      · exact State.tryCandidate_filter silent p _ _
      · simp
  · simp

theorem State.beginRequest_filter : s.beginRequest.wire.filter k = s.wire.filter k := by
  unfold State.beginRequest
  split
  · rfl
  · split
    · simp
    · exact State.beginOpening_filter silent _
  · split
    · split
      · exact State.appendEntry_filter silent
      · split
        · simp
        · exact State.beginOpening_filter silent _
    · simp

theorem State.grantErase_filter : s.grantErase.wire.filter k = s.wire.filter k := by
  unfold State.grantErase
  split
  · simp
  · split
    · exact State.startOp_filter (by exact silent) _ _
    · exact State.startOp_filter (by exact silent) _ _
    · simp

theorem State.grantAllocationErase_filter (p : Nat) : (s.grantAllocationErase p).wire.filter k = s.wire.filter k := by
  unfold State.grantAllocationErase
  split
  · exact State.startOp_filter silent _ _
  · simp

theorem State.grantCommit_filter (user : LinkUser) (o : FlashOp) :
    (s.grantCommit user o).wire.filter k = s.wire.filter k := by
  simp only [State.grantCommit]
  split
  · exact State.grantAllocationErase_filter (by exact silent) _
  · exact State.startOp_filter (by exact silent) _ _

theorem State.beginGranted_filter : s.beginGranted.wire.filter k = s.wire.filter k := by
  simp only [State.beginGranted]
  split
  · rfl
  · split
    · exact State.startOp_filter (by exact silent) _ _
    · rfl
  · split
    · exact State.grantCommit_filter (by exact silent) _ _
    · rfl
  · split
    · exact State.startOp_filter (by exact silent) _ _
    · rfl
  · exact State.grantErase_filter (by exact silent)

theorem State.sampleAt_filter (wide fmt svc pwrwarnn rstnLow internalReset : Bool) :
    (s.sampleAt wide fmt svc pwrwarnn rstnLow internalReset).wire.filter k = s.wire.filter k := by
  simp only [State.sampleAt]
  split
  · exact State.startOp_filter (by exact silent) _ _
  · rfl

end

end Sys2Proof.Machine
end

section
namespace Sys2Proof.Machine

/-! ## PROGRAM and ERASE on the wire

Every operation but the end of write enable leaves the PROGRAM and ERASE events driven as they were. -/

section
variable (s : State)

@[simp] theorem State.closeStream_writes : s.closeStream.wire.filter LinkEvent.isWrite = s.wire.filter LinkEvent.isWrite :=
  s.closeStream_filter _ rfl

@[simp] theorem State.firstCommand_writes (user : LinkUser) (o : FlashOp) :
    (s.firstCommand user o).wire.filter LinkEvent.isWrite = s.wire.filter LinkEvent.isWrite :=
  s.firstCommand_filter _ user o fun _ h => h

@[simp] theorem State.startOp_writes (user : LinkUser) (o : FlashOp) :
    (s.startOp user o).wire.filter LinkEvent.isWrite = s.wire.filter LinkEvent.isWrite :=
  State.startOp_filter s.link.power.silent_isWrite user o

@[simp] theorem State.journalOp_writes (o : FlashOp) :
    (s.journalOp o).wire.filter LinkEvent.isWrite = s.wire.filter LinkEvent.isWrite :=
  State.journalOp_filter s.link.power.silent_isWrite o

@[simp] theorem State.appendEntry_writes : s.appendEntry.wire.filter LinkEvent.isWrite = s.wire.filter LinkEvent.isWrite :=
  State.appendEntry_filter s.link.power.silent_isWrite

@[simp] theorem State.writePosition_writes (o : Opening) (q : Nat) :
    (s.writePosition o q).wire.filter LinkEvent.isWrite = s.wire.filter LinkEvent.isWrite :=
  State.writePosition_filter s.link.power.silent_isWrite o q

@[simp] theorem State.tryCandidate_writes (p : OpenPurpose) (number c : Nat) :
    (s.tryCandidate p number c).wire.filter LinkEvent.isWrite = s.wire.filter LinkEvent.isWrite :=
  State.tryCandidate_filter s.link.power.silent_isWrite p number c

@[simp] theorem State.beginOpening_writes (p : OpenPurpose) :
    (s.beginOpening p).wire.filter LinkEvent.isWrite = s.wire.filter LinkEvent.isWrite :=
  State.beginOpening_filter s.link.power.silent_isWrite p

@[simp] theorem State.beginRequest_writes :
    s.beginRequest.wire.filter LinkEvent.isWrite = s.wire.filter LinkEvent.isWrite :=
  State.beginRequest_filter s.link.power.silent_isWrite

@[simp] theorem State.beginGranted_writes :
    s.beginGranted.wire.filter LinkEvent.isWrite = s.wire.filter LinkEvent.isWrite :=
  State.beginGranted_filter s.link.power.silent_isWrite

@[simp] theorem State.sampleAt_writes (wide fmt svc pwrwarnn rstnLow internalReset : Bool) :
    (s.sampleAt wide fmt svc pwrwarnn rstnLow internalReset).wire.filter LinkEvent.isWrite =
      s.wire.filter LinkEvent.isWrite :=
  State.sampleAt_filter s.link.power.silent_isWrite wide fmt svc pwrwarnn rstnLow internalReset

/-! ### Suspension and host read runs -/

@[simp] theorem State.trySuspend_writes : s.trySuspend.wire.filter LinkEvent.isWrite = s.wire.filter LinkEvent.isWrite := by
  simp only [State.trySuspend, State.suspendErase]
  split
  · split <;> simp [LinkEvent.isWrite]
  · rfl

@[simp] theorem State.tryResume_writes : s.tryResume.wire.filter LinkEvent.isWrite = s.wire.filter LinkEvent.isWrite := by
  unfold State.tryResume
  split
  · split <;> simp [LinkEvent.isWrite]
  · rfl

@[simp] theorem State.requestRun_writes (r : Run) :
    (s.requestRun r).wire.filter LinkEvent.isWrite = s.wire.filter LinkEvent.isWrite := by
  unfold State.requestRun
  split <;> simp

@[simp] theorem State.presentRead_writes (c : Cycle) :
    (s.presentRead c).wire.filter LinkEvent.isWrite = s.wire.filter LinkEvent.isWrite := by
  simp only [State.presentRead]
  split <;> simp

@[simp] theorem State.applyChecks_writes : s.applyChecks.wire.filter LinkEvent.isWrite = s.wire.filter LinkEvent.isWrite := by
  unfold State.applyChecks
  repeat' split
  all_goals simp

@[simp] theorem State.recheckHeld_writes : s.recheckHeld.wire.filter LinkEvent.isWrite = s.wire.filter LinkEvent.isWrite := by
  unfold State.recheckHeld
  repeat' split
  all_goals simp

@[simp] theorem State.powerDown_writes : s.powerDown.wire.filter LinkEvent.isWrite = s.wire.filter LinkEvent.isWrite := by
  simp [State.powerDown, LinkEvent.isWrite]

@[simp] theorem State.enterFault_writes : s.enterFault.wire.filter LinkEvent.isWrite = s.wire.filter LinkEvent.isWrite := by
  simp [State.enterFault]

/-! ### The journal -/

@[simp] theorem State.install_writes (m : MountRecord) (r : Roles) (formatted openingFailed : Bool) :
    (s.install m r formatted openingFailed).wire.filter LinkEvent.isWrite = s.wire.filter LinkEvent.isWrite := by
  simp [State.install]

@[simp] theorem State.addRequest_writes (q : JournalRequest) :
    (s.addRequest q).wire.filter LinkEvent.isWrite = s.wire.filter LinkEvent.isWrite := by
  simp only [State.addRequest]
  split <;> simp

@[simp] theorem State.remapDone_writes (l new old : Nat) :
    (s.remapDone l new old).wire.filter LinkEvent.isWrite = s.wire.filter LinkEvent.isWrite := by
  simp only [State.remapDone]
  repeat' split
  all_goals simp

@[simp] theorem State.appendComplete_writes :
    s.appendComplete.wire.filter LinkEvent.isWrite = s.wire.filter LinkEvent.isWrite := by
  simp only [State.appendComplete, State.requesterDone]
  repeat' split
  all_goals simp

@[simp] theorem State.appendFailed_writes : s.appendFailed.wire.filter LinkEvent.isWrite = s.wire.filter LinkEvent.isWrite := by
  simp only [State.appendFailed]
  split <;> simp

@[simp] theorem State.abandonOpening_writes (o : Opening) (leftValid : Bool) :
    (s.abandonOpening o leftValid).wire.filter LinkEvent.isWrite = s.wire.filter LinkEvent.isWrite := by
  unfold State.abandonOpening
  cases o.purpose with
  | entry => simp
  | recording => simp
  | format => simp
  | mount => cases s.ctl.mount <;> simp [State.installUnopened]

@[simp] theorem State.nextCandidate_writes (o : Opening) (leftValid : Bool) :
    (s.nextCandidate o leftValid).wire.filter LinkEvent.isWrite = s.wire.filter LinkEvent.isWrite := by
  unfold State.nextCandidate
  repeat' split
  all_goals simp

@[simp] theorem State.candidateFailed_writes (o : Opening) (headIssued : Bool) :
    (s.candidateFailed o headIssued).wire.filter LinkEvent.isWrite = s.wire.filter LinkEvent.isWrite := by
  simp only [State.candidateFailed]
  split <;> simp

@[simp] theorem State.completeOpening_writes (o : Opening) :
    (s.completeOpening o).wire.filter LinkEvent.isWrite = s.wire.filter LinkEvent.isWrite := by
  simp only [State.completeOpening]
  cases o.purpose with
  | entry => simp
  | recording => simp
  | format => cases s.ctl.mount <;> simp
  | mount => cases s.ctl.mount <;> simp

@[simp] theorem State.positionWritten_writes (o : Opening) (q : Nat) :
    (s.positionWritten o q).wire.filter LinkEvent.isWrite = s.wire.filter LinkEvent.isWrite := by
  simp only [State.positionWritten]
  generalize (if q = 0 then { o with images := s.openingCheckpoint o } else o) = written
  split <;> simp

@[simp] theorem State.journalProgramEnd_writes (fail : Bool) :
    (s.journalProgramEnd fail).wire.filter LinkEvent.isWrite = s.wire.filter LinkEvent.isWrite := by
  unfold State.journalProgramEnd
  repeat' split
  all_goals simp

@[simp] theorem State.journalReadBackEnd_writes (bytes : List Byte) :
    (s.journalReadBackEnd bytes).wire.filter LinkEvent.isWrite = s.wire.filter LinkEvent.isWrite := by
  unfold State.journalReadBackEnd
  repeat' split
  all_goals simp

@[simp] theorem State.journalEraseEnd_writes (fail : Bool) :
    (s.journalEraseEnd fail).wire.filter LinkEvent.isWrite = s.wire.filter LinkEvent.isWrite := by
  unfold State.journalEraseEnd
  repeat' split
  all_goals simp

/-! ### The commit engine and the erase engine -/

@[simp] theorem State.copyFrom_writes (j : Job) (n : Nat) :
    (s.copyFrom j n).wire.filter LinkEvent.isWrite = s.wire.filter LinkEvent.isWrite := by
  unfold State.copyFrom
  split <;> simp

@[simp] theorem State.pageDone_writes (j : Job) :
    (s.pageDone j).wire.filter LinkEvent.isWrite = s.wire.filter LinkEvent.isWrite := by
  unfold State.pageDone
  split <;> simp

@[simp] theorem State.pageFailed_writes (j : Job) (cause : RetireCause) :
    (s.pageFailed j cause).wire.filter LinkEvent.isWrite = s.wire.filter LinkEvent.isWrite := by
  unfold State.pageFailed
  repeat' split
  all_goals simp

@[simp] theorem State.pageReadDone_writes (bytes : List Byte) :
    (s.pageReadDone bytes).wire.filter LinkEvent.isWrite = s.wire.filter LinkEvent.isWrite := by
  simp only [State.pageReadDone]
  repeat' split
  all_goals simp

@[simp] theorem State.commitProgramEnd_writes (fail : Bool) :
    (s.commitProgramEnd fail).wire.filter LinkEvent.isWrite = s.wire.filter LinkEvent.isWrite := by
  unfold State.commitProgramEnd
  repeat' split
  all_goals simp

@[simp] theorem State.commitReadBackEnd_writes (bytes : List Byte) :
    (s.commitReadBackEnd bytes).wire.filter LinkEvent.isWrite = s.wire.filter LinkEvent.isWrite := by
  unfold State.commitReadBackEnd
  repeat' split
  all_goals simp

@[simp] theorem State.commitEraseEnd_writes (p : Nat) (fail : Bool) :
    (s.commitEraseEnd p fail).wire.filter LinkEvent.isWrite = s.wire.filter LinkEvent.isWrite := by
  unfold State.commitEraseEnd
  repeat' split
  all_goals simp

@[simp] theorem State.openingFinds_writes (j : Nat) (fail : Bool) :
    (s.openingFinds j fail).wire.filter LinkEvent.isWrite = s.wire.filter LinkEvent.isWrite := by
  simp only [State.openingFinds]
  repeat' split
  all_goals simp

@[simp] theorem State.eraserEraseEnd_writes (fail : Bool) :
    (s.eraserEraseEnd fail).wire.filter LinkEvent.isWrite = s.wire.filter LinkEvent.isWrite := by
  simp only [State.eraserEraseEnd, State.journalSectorErased, State.spareEraseEnd]
  repeat' split
  all_goals simp

/-! ### Mount and format -/

@[simp] theorem State.noUsableState_writes (m : MountRecord) :
    (s.noUsableState m).wire.filter LinkEvent.isWrite = s.wire.filter LinkEvent.isWrite := by
  unfold State.noUsableState
  split <;> simp [State.enterFormatting]

@[simp] theorem State.searchPrevious_writes (m : MountRecord) (bound : Nat) :
    (s.searchPrevious m bound).wire.filter LinkEvent.isWrite = s.wire.filter LinkEvent.isWrite := by
  unfold State.searchPrevious
  split <;> simp [State.readSector, State.installNewest]

@[simp] theorem State.beginMountOpening_writes (m : MountRecord) :
    (s.beginMountOpening m).wire.filter LinkEvent.isWrite = s.wire.filter LinkEvent.isWrite := by
  simp only [State.beginMountOpening, State.installUnopened]
  repeat' split
  all_goals simp

@[simp] theorem State.loadRead_writes (m : MountRecord) :
    (s.loadRead m).wire.filter LinkEvent.isWrite = s.wire.filter LinkEvent.isWrite := by
  simp only [State.loadRead, State.checkpointLoaded, State.readSector]
  repeat' split
  all_goals simp

@[simp] theorem State.scanRead_writes (m : MountRecord) (bytes : List Byte) :
    (s.scanRead m bytes).wire.filter LinkEvent.isWrite = s.wire.filter LinkEvent.isWrite := by
  simp only [State.scanRead, State.scanDecide, State.scanFrom, State.readSector, State.enterFormatting]
  repeat' split
  all_goals simp

@[simp] theorem State.formatJournal_writes (m : MountRecord) (j : Nat) :
    (s.formatJournal m j).wire.filter LinkEvent.isWrite = s.wire.filter LinkEvent.isWrite := by
  simp only [State.formatJournal, State.formatData, State.formatOp, State.beginFormatOpening]
  repeat' split
  all_goals simp

@[simp] theorem State.formatData_writes (m : MountRecord) (p : Nat) :
    (s.formatData m p).wire.filter LinkEvent.isWrite = s.wire.filter LinkEvent.isWrite := by
  simp only [State.formatData, State.formatOp, State.beginFormatOpening]
  repeat' split
  all_goals simp

@[simp] theorem State.formatEraseEnd_writes (fail : Bool) :
    (s.formatEraseEnd fail).wire.filter LinkEvent.isWrite = s.wire.filter LinkEvent.isWrite := by
  simp only [State.formatEraseEnd, State.formatOp]
  repeat' split
  all_goals simp

@[simp] theorem State.formatProgramEnd_writes :
    s.formatProgramEnd.wire.filter LinkEvent.isWrite = s.wire.filter LinkEvent.isWrite := by
  simp only [State.formatProgramEnd, State.formatOp]
  repeat' split
  all_goals simp

@[simp] theorem State.formatReadBackEnd_writes (bytes : List Byte) :
    (s.formatReadBackEnd bytes).wire.filter LinkEvent.isWrite = s.wire.filter LinkEvent.isWrite := by
  unfold State.formatReadBackEnd
  repeat' split
  all_goals simp

@[simp] theorem State.mountReadDone_writes (bytes : List Byte) :
    (s.mountReadDone bytes).wire.filter LinkEvent.isWrite = s.wire.filter LinkEvent.isWrite := by
  simp only [State.mountReadDone, State.formatHeadRead, State.formatOp, State.nextPage, State.previousRead, State.installNewest,
    State.recordRead]
  repeat' split
  all_goals simp

/-! ### The commands -/

@[simp] theorem State.programOutcome_writes (user : LinkUser) (fail : Bool) :
    (s.programOutcome user fail).wire.filter LinkEvent.isWrite = s.wire.filter LinkEvent.isWrite := by
  cases user <;> simp [State.programOutcome]

@[simp] theorem State.readBackOutcome_writes (user : LinkUser) (bytes : List Byte) :
    (s.readBackOutcome user bytes).wire.filter LinkEvent.isWrite = s.wire.filter LinkEvent.isWrite := by
  cases user <;> simp [State.readBackOutcome]

@[simp] theorem State.endErase_writes (e : EraseRecord) (st : Byte) :
    (s.endErase e st).wire.filter LinkEvent.isWrite = s.wire.filter LinkEvent.isWrite := by
  unfold State.endErase State.eraseOutcome
  cases e.user <;> simp

end

/-- A PROGRAM or an ERASE goes out only at a write-enable status with WEL set (R110). -/
theorem exec_writes (c : Instr) (s t : State) (h : exec c s = .next t)
    (notEnabled : ∀ st, c = .writeEnableStatus st → welFlag st = false) :
    t.wire.filter LinkEvent.isWrite = s.wire.filter LinkEvent.isWrite := by
  cases c
  all_goals obtain rfl := Host.Outcome.next.inj h
  case writeEnableStatus st =>
    rw [notEnabled st rfl]
    split <;> simp
  case rstnAssert => exact s.closeStream_writes
  case powerOn => rfl
  case powerWarningAssertion =>
    split
    · rfl
    · simp only [State.closeStep_wire]
      split <;> simp
  case powerWarningDeassertion =>
    split
    · rfl
    · simp only [State.closeStep_wire]
      split <;> simp
  case hostReadRunEnd bytes =>
    split
    · split
      · simp only [State.closeStep_wire, State.tryResume_writes]
        repeat' split
        all_goals simp
      · rfl
    · rfl
  all_goals
    repeat' split
    all_goals simp [State.scanFrom, LinkEvent.isWrite]

end Sys2Proof.Machine
end

section
namespace Sys2Proof.Machine

/-! ## A sleeping flash -/

/-- Anything but the raising of LSELn and POWER_UP. -/
def LinkEvent.needsAwake : LinkEvent → Bool
  | .closeStream => false
  | .powerUp => false
  | _ => true

theorem LinkEvent.needsAwake_eq_false (e : LinkEvent) (h : e.needsAwake = false) : e = .closeStream ∨ e = .powerUp := by
  cases e
  case closeStream => exact .inl rfl
  case powerUp => exact .inr rfl
  all_goals exact nomatch h

theorem PowerState.silent_needsAwake (p : PowerState) (asleep : p.needsWake = true) : p.Silent LinkEvent.needsAwake :=
  ⟨rfl, rfl, fun awake => by simp [asleep] at awake⟩

section
variable (s : State) (idle : s.link.op = none)
include idle

/-- With no operation in progress there is no erase to suspend (R118). -/
theorem State.trySuspend_idle : s.trySuspend = s := by
  simp [State.trySuspend, State.guardPassed, idle]

theorem State.requestRun_wire_idle (r : Run) : (s.requestRun r).wire = s.wire := by
  unfold State.requestRun
  split
  · rfl
  · rw [State.trySuspend_idle _ (by exact idle)]
    rfl

/-- A cycle checked on a link with no operation in progress drives nothing there (R117, R118). -/
theorem State.applyChecks_wire_idle : s.applyChecks.wire = s.wire := by
  have presents : ∀ c, (s.presentRead c).wire = s.wire := by
    intro c
    simp only [State.presentRead]
    split
    · simp
    · exact State.requestRun_wire_idle _ (by exact idle) _
  unfold State.applyChecks
  repeat' split
  all_goals simp [presents]

end

/-- A flash that needs a wake is given nothing but POWER_UP (R125, R128). -/
theorem exec_asleep (c : Instr) (s t : State) (h : exec c s = .next t) (asleep : s.link.power.needsWake = true)
    (idle : s.link.op = none) (noErase : s.link.erasing = none) (noDoze : s.link.doze = none) :
    t.wire.filter LinkEvent.needsAwake = s.wire.filter LinkEvent.needsAwake := by
  have silent := s.link.power.silent_needsAwake asleep
  have closes := s.closeStream_filter LinkEvent.needsAwake rfl
  have notAwake : s.mayPowerDown = false := by
    have : s.link.power ≠ .awake := by rintro h; simp [h, PowerState.needsWake] at asleep
    simp [State.mayPowerDown, this]
  cases c
  all_goals obtain rfl := Host.Outcome.next.inj h
  case rstnAssert => exact closes
  case powerOn => rfl
  case dataPhaseStart hdir hlanen had =>
    split
    · rfl
    · rw [State.closeStep_wire, State.applyChecks_wire_idle _ (by exact idle)]
      rfl
  case resetRelease wide fmt svc pwrwarnn =>
    split
    · rw [State.closeStep_wire]
      exact State.sampleAt_filter silent ..
    · rfl
  case internalResetEnd wide fmt svc pwrwarnn =>
    split
    · rw [State.closeStep_wire]
      exact State.sampleAt_filter silent ..
    · rfl
  case journalNextRequest =>
    split
    · rw [State.closeStep_wire]
      exact State.beginRequest_filter silent
    · rfl
  case linkGrant =>
    split
    · rw [State.closeStep_wire, State.beginGranted_filter (by exact silent), State.arbitrate_wire]
    · rfl
  case progressGuardPasses => rw [s.trySuspend_idle idle, State.closeStep_wire]
  case powerWarningAssertion =>
    split
    · rfl
    · simp only [State.closeStep_wire]
      split <;> simp
  case powerWarningDeassertion =>
    split
    · rfl
    · simp only [State.closeStep_wire]
      split <;> simp
  case suspendLatencyExpiry => simp [State.suspendOverdue, idle, noErase]
  case busyLimitExpiry => simp [State.busyOverdue, idle]
  case haltedPowerDown => simp [notAwake]
  case dozeCountExpiry => simp [noDoze, countDue]
  -- The ends of operations and of suspensions find none.
  case suspendStatus | resumeStatus | wakeIntervalEnd | writeEnableStatus | hostReadRunEnd | pageReadEnd | programEnd |
      readBackEnd | eraseEnd | identifyEnd | settleEnd | mountReadEnd =>
    simp [idle, noErase]
  -- The rest have no event of the link.
  all_goals
    repeat' split
    all_goals simp

/-- Settles O10: the PROGRAM and ERASE events driven are those driven before, but at a write-enable status with WEL set; and a flash
that needs a wake has no operation, no erase and no doze count, so that a command can only begin an operation there. -/
theorem linkProtocolKept : Obligations.LinkProtocolKept := by
  intro c s t driven h wire
  have appended : ∀ k : LinkEvent → Bool, t.wire.filter k = s.wire.filter k → ∀ e ∈ driven, k e = false := by
    intro k same e he
    rw [wire, List.filter_append, List.append_right_eq_self] at same
    simpa using List.filter_eq_nil_iff.mp same e he
  refine ⟨fun issued => ?_, fun sound asleep => ?_⟩
  · by_contra notEnabled
    have none_issued := appended _ (exec_writes c s t h fun st hc => by
      simpa [welFlag] using fun wel => notEnabled ⟨st, hc, wel⟩)
    rcases issued with ⟨addr, data, he⟩ | ⟨addr, he⟩ <;> exact nomatch none_issued _ he
  · have wakes : s.link.power.needsWake = true := by rcases asleep with h | h <;> simp [h, PowerState.needsWake]
    obtain ⟨idle, noErase⟩ := sound.link.asleep wakes
    have noDoze : s.link.doze = none := by
      have runs := sound.doze
      rcases asleep with h | h <;> simpa [State.DozeLaw, State.mayDoze, h, beq_eq_false_iff_ne.mpr] using runs
    have kept := appended _ (exec_asleep c s t h wakes idle noErase noDoze)
    exact fun e he => e.needsAwake_eq_false (kept e he)

end Sys2Proof.Machine
end

section
namespace Sys2Proof.Machine

/-! ## The doze count and POWER_DOWN -/

/-- All the conditions under which the doze count runs (R126). -/
theorem State.mayDoze_iff (s : State) :
    s.mayDoze = true ↔
      (s.ctl.mode = .ready ∨ s.ctl.mode = .readOnly) ∧ s.values.dozeMs ≠ 0 ∧ s.port.cycle = none ∧
        (∀ i < 16, (s.staging.slot i).state = .free) ∧ s.engine.job = none ∧ s.eraseOutstanding = false ∧
        s.journal.activity = .idle ∧ s.journal.requests = [] ∧ s.link.op = none ∧ s.link.suspended = false ∧
        s.link.requests = .empty ∧ s.link.power = .awake := by
  simp [State.mayDoze, Staging.allFree_iff, Journal.atRest, Link.free, Link.quiet, and_assoc]

/-- Settles O12: the negation of `State.mayDoze_iff` is the disjunction of its conditions' negations. -/
theorem dozeCountFollowsConditions : Obligations.DozeCountFollowsConditions := by
  intro s
  refine ⟨if s.mayDoze then some (s.link.doze.getD s.now) else none, rfl, fun all => ?_, fun fails => ?_⟩
  · rw [if_pos (s.mayDoze_iff.mpr all)]
  · rw [if_neg]
    intro may
    obtain ⟨mode, dozeMs, cycle, free, job, erase, activity, requests, op, suspended, empty, power⟩ := s.mayDoze_iff.mp may
    have mode' : ¬(s.ctl.mode ≠ .ready ∧ s.ctl.mode ≠ .readOnly) := by tauto
    have free' : ¬∃ i < 16, (s.staging.slot i).state ≠ .free := by simpa using free
    simp [mode', free', dozeMs, cycle, job, erase, activity, requests, op, suspended, empty, power] at fails

/-- A condition of the doze count unmet stops it (R126). -/
theorem State.refreshDoze_stopped (s : State) (noDoze : s.mayDoze = false) :
    s.refreshDoze = s.withLink { s.link with doze := none } := by
  simp [State.refreshDoze, noDoze]

/-- On a link with no request outstanding nothing is granted (R115). -/
theorem State.award_quiet (s : State) (quiet : s.link.requests = .empty) : s.award = none := by
  cases h : s.award with
  | none => rfl
  | some l =>
    have holds := (s.award_holds l h).2
    rw [quiet] at holds
    cases l <;> exact nomatch holds

/-- The end of a step that leaves no request outstanding and a condition of the doze count unmet. -/
theorem State.closeStep_quiet (s : State) (quiet : s.link.requests = .empty) (noDoze : s.mayDoze = false) :
    s.closeStep = { s with link := { s.link with doze := none, granted := none } } := by
  have arbitrated : s.arbitrate = s.withLink { s.link with granted := none } := by
    simp [State.arbitrate, s.award_quiet quiet]
  rw [State.closeStep, arbitrated, State.refreshDoze_stopped _ (by exact noDoze)]
  rfl

/-- Settles O41: both commands issue `State.powerDown`; neither HALTED nor a flash that is DOWN lets the doze count run. -/
theorem powerDownClosesStream : Obligations.PowerDownClosesStream := by
  intro s
  have asleep : ∀ t : State, t.link.power = .down → t.mayDoze = false := fun t h => by simp [State.mayDoze, h]
  refine ⟨fun halted job eraser activity requests op suspended empty power => ?_, fun since running due => ⟨?_, ?_, ?_⟩⟩
  · have may : s.mayPowerDown = true := by
      simp [State.mayPowerDown, Journal.atRest, Link.free, Link.quiet, halted, job, eraser, activity, requests, op, suspended,
        empty, power]
    have issued : exec .haltedPowerDown s = .next s.powerDown.closeStep := by simp [exec, execHaltedPowerDown, may]
    rw [issued, s.powerDown_eq, State.closeStep_quiet _ (by exact empty) (asleep _ rfl)]
  · have expired : countDue s.link.doze s.values.dozeMs s.now = true := by simp [countDue, running, msToUs, due]
    have issued : exec .dozeCountExpiry s = .next s.powerDown.closeStep := by simp [exec, execDozeCountExpiry, expired]
    rw [issued, s.powerDown_eq]
  · rw [State.closeStep, State.refreshDoze_stopped _ (asleep _ rfl)]
    rfl
  · rfl

end Sys2Proof.Machine
end

section
namespace Sys2Proof.Machine

/-! ## Operations begun on an awake flash -/

/-- A program or an erase begun: the stream closed, ENABLE_WRITE and STATUS (R110). -/
theorem State.startOp_write (s : State) (user : LinkUser) (o : FlashOp) (awake : s.link.power = .awake)
    (write : (∃ addr data, o = .program addr data) ∨ ∃ p, o = .erase p) :
    s.startOp user o =
      { s with
        link := { s.link with stream := none, op := some { user := user, op := o, stage := .writeEnable } }
        wire := s.wire ++ ((if s.link.stream.isSome then [.closeStream] else []) ++ [.enableWrite, .status]) } := by
  rcases write with ⟨addr, data, rfl⟩ | ⟨p, rfl⟩ <;>
    simp [State.startOp, awake, PowerState.needsWake, State.firstCommand, State.closeStream_eq, State.drive, State.setOp,
      State.withOp, State.withLink]

/-- The settle begun, with no stream open (R130). -/
theorem State.startOp_settle (s : State) (user : LinkUser) (awake : s.link.power = .awake) (closed : s.link.stream = none) :
    s.startOp user .settle =
      { s with
        link := { s.link with op := some { user := user, op := .settle, stage := .settling s.now none } }
        wire := s.wire ++ [.poll] } := by
  simp [State.startOp, awake, PowerState.needsWake, State.firstCommand, State.closeStream, closed, State.drive, State.setOp,
    State.withOp, State.withLink]

/-- IDENTIFY issued, with no stream open (R130). -/
theorem State.startOp_identify (s : State) (user : LinkUser) (awake : s.link.power = .awake) (closed : s.link.stream = none) :
    s.startOp user .identify =
      { s with
        link := { s.link with op := some { user := user, op := .identify, stage := .reading } }
        wire := s.wire ++ [.identify] } := by
  simp [State.startOp, awake, PowerState.needsWake, State.firstCommand, State.closeStream, closed, State.drive, State.setOp,
    State.withOp, State.withLink]

/-- On an awake flash an operation other than a wake begins with its first command (R109, R128). -/
theorem State.startOp_awake (s : State) (user : LinkUser) (o : FlashOp) (awake : s.link.power = .awake) :
    s.startOp user o = s.firstCommand user o := by
  simp [State.startOp, awake, PowerState.needsWake]

/-! ## WRITE_ENABLE_STATUS -/

section
variable (s : State) (user : LinkUser) (st : Byte)

theorem exec_writeEnableStatus_program (addr : Nat) (data : List Byte)
    (op : s.link.op = some { user := user, op := .program addr data, stage := .writeEnable }) :
    exec (.writeEnableStatus st) s = .next (State.closeStep
      (if st.getLsbD 1 then
        { s with
          link := { s.link with op := some { user := user, op := .program addr data, stage := .polling s.now } }
          wire := s.wire ++ [.program addr data, .poll] }
      else s.enterFault)) := by
  simp [exec, execWriteEnableStatus, op, welFlag, State.drive, State.setOp, State.withOp, State.withLink]

theorem exec_writeEnableStatus_erase (p : Nat)
    (op : s.link.op = some { user := user, op := .erase p, stage := .writeEnable }) :
    exec (.writeEnableStatus st) s = .next (State.closeStep
      (if st.getLsbD 1 then
        { s with
          link :=
            { s.link with
              op := some { user := user, op := .erase p, stage := .polling s.now }
              erasing := some { sector := p, user := user, accrued := 0, since := s.now, progress := .running } }
          wire := s.wire ++ [.erase (p * 4096), .poll] }
      else s.enterFault)) := by
  simp [exec, execWriteEnableStatus, op, welFlag, physAddr, State.drive, State.setOp, State.withOp, State.withErasing,
    State.withLink]

/-- Of the status WEL alone plays a part (R110). -/
theorem exec_writeEnableStatus_congr (other : Byte) (same : other.getLsbD 1 = st.getLsbD 1) :
    exec (.writeEnableStatus other) s = exec (.writeEnableStatus st) s := by
  have wel : welFlag other = welFlag st := same
  simp only [exec, execWriteEnableStatus]
  rw [wel]

end

/-- Settles O47: the two write-enable statuses branch on WEL alone, and the branch with WEL clear is the entry to FAULT. -/
theorem writeEnableIssuesOrFaults : Obligations.WriteEnableIssuesOrFaults := by
  intro s user addr p data st
  refine ⟨fun o awake write => ?_, fun other => exec_writeEnableStatus_congr s st other, fun op wel => ?_, fun op wel => ?_,
    fun op wel => ⟨_, ?_, s.enterFault_faulted⟩⟩
  · exact s.startOp_write user o awake (write.imp (fun h => ⟨addr, data, h⟩) fun h => ⟨p, h⟩)
  · rw [exec_writeEnableStatus_program s user st addr data op, if_pos wel]
  · rw [exec_writeEnableStatus_erase s user st p op, if_pos wel]
  · have clear : ¬st.getLsbD 1 = true := by rw [wel]; exact Bool.false_ne_true
    rcases op with op | op
    · rw [exec_writeEnableStatus_program s user st addr data op, if_neg clear]
    · rw [exec_writeEnableStatus_erase s user st p op, if_neg clear]

/-! ## The limits of the link -/

theorem exec_suspendLatencyExpiry_faulted (s : State) (overdue : s.suspendOverdue = true) :
    ∃ t, exec .suspendLatencyExpiry s = .next t ∧ s.Faulted t :=
  ⟨_, by simp [exec, execSuspendLatencyExpiry, overdue], s.enterFault_faulted⟩

theorem exec_busyLimitExpiry_faulted (s : State) (overdue : s.busyOverdue = true) :
    ∃ t, exec .busyLimitExpiry s = .next t ∧ s.Faulted t :=
  ⟨_, by simp [exec, execBusyLimitExpiry, overdue], s.enterFault_faulted⟩

/-- Settles O48: each case is one of those in which `State.suspendOverdue` or `State.busyOverdue` says that a limit has passed. -/
theorem linkLimitsEndInFault : Obligations.LinkLimitsEndInFault := by
  intro s user e p first since addr data
  refine ⟨fun erasing waits late => ?_, fun op late => ?_, fun op late => ?_, fun op erasing running late => ?_,
    fun op late => ?_⟩
  · apply exec_suspendLatencyExpiry_faulted
    rcases waits with waits | waits <;>
      simp [State.suspendOverdue, erasing, waits, EraseProgress.overdue, suspendLimit, late]
  · apply exec_suspendLatencyExpiry_faulted
    simp [State.suspendOverdue, op, OpStage.overdue, suspendLimit, late]
  · apply exec_busyLimitExpiry_faulted
    simp [State.busyOverdue, op, programLimit, late]
  · apply exec_busyLimitExpiry_faulted
    simp [State.busyOverdue, op, erasing, running, eraseLimit, EraseRecord.runningTime, late]
  · apply exec_busyLimitExpiry_faulted
    simp [State.busyOverdue, op, eraseLimit, late]

/-! ## WAKE_INTERVAL_END -/

/-- After the wake interval the operation that waited for it issues its first command (R128, R109). -/
theorem exec_wakeIntervalEnd_goesOn (s : State) (user : LinkUser) (o : FlashOp) (since : Nat) (due : 40 ≤ s.now - since)
    (op : s.link.op = some { user := user, op := o, stage := .waking since }) (notWake : o ≠ .wake) :
    exec .wakeIntervalEnd s = .next ((s.withPower .awake).startOp user o).closeStep := by
  rw [State.startOp_awake (awake := rfl)]
  simp [exec, execWakeIntervalEnd, op, wakeInterval, due, notWake]

/-- A wake for its own sake is followed by the settle (R169). -/
theorem exec_wakeIntervalEnd_settles (s : State) (user : LinkUser) (since : Nat) (due : 40 ≤ s.now - since)
    (op : s.link.op = some { user := user, op := .wake, stage := .waking since }) :
    exec .wakeIntervalEnd s =
      .next (((((s.withPower .awake).withOp none).mountStep .settle).startOp .mount .settle).closeStep) := by
  simp [exec, execWakeIntervalEnd, op, wakeInterval, due]

/-- Settles O46: the wait over, the operation is begun as it would be on a flash found awake. -/
theorem wakeGoesOnWithOperation : Obligations.WakeGoesOnWithOperation := by
  intro s user o since due closed op
  have reads : ∀ addr len, o = .pageRead addr ∧ len = 256 ∨ o = .readBack addr len ∨ o = .mountRead addr len →
      exec .wakeIntervalEnd s = .next
        ({ s with
            link := { s.link with power := .awake, op := some { user := user, op := o, stage := .reading } }
            wire := s.wire ++ [.read addr len] } : State).closeStep := by
    intro addr len read
    have notWake : o ≠ .wake := by rintro rfl; simp at read
    rw [exec_wakeIntervalEnd_goesOn s user o since due op notWake, State.startOp_read (h := rfl) (ho := read)]
    simp [closed, State.withPower, State.withLink]
  have writes : (∃ addr data, o = .program addr data) ∨ (∃ p, o = .erase p) →
      exec .wakeIntervalEnd s = .next
        ({ s with
            link := { s.link with power := .awake, op := some { user := user, op := o, stage := .writeEnable } }
            wire := s.wire ++ [.enableWrite, .status] } : State).closeStep := by
    intro write
    have notWake : o ≠ .wake := by rintro rfl; simp at write
    rw [exec_wakeIntervalEnd_goesOn s user o since due op notWake, State.startOp_write (awake := rfl) (write := write)]
    simp [closed, State.withPower, State.withLink]
  refine ⟨?_, ?_, ?_, ?_, ?_, ?_, ?_⟩
  · rintro run addr rfl
    rw [exec_wakeIntervalEnd_goesOn s user _ since due op nofun, State.startOp_hostRun (h := rfl)]
    simp [closed, State.withPower, State.withLink]
  · exact fun addr h => reads addr 256 (.inl ⟨h, rfl⟩)
  · exact fun addr len h => reads addr len (.inr (.inl h))
  · exact fun addr len h => reads addr len (.inr (.inr h))
  · exact fun addr data h => writes (.inl ⟨addr, data, h⟩)
  · exact fun p h => writes (.inr ⟨p, h⟩)
  · rintro m rfl mount
    rw [exec_wakeIntervalEnd_settles s user since due op, State.startOp_settle (awake := rfl) (closed := by exact closed)]
    simp [State.mountStep, mount, State.withPower, State.withOp, State.withLink, State.withMount, State.withCtl]

/-! ## The settle, IDENTIFY and the head scan -/

/-- Settles O58: each end is followed in the same step by the next operation of the mount, begun on an awake flash. -/
theorem settleThenIdentifyThenScan : Obligations.SettleThenIdentifyThenScan := by
  intro s user m first st b0 b1 b2 mount closed awake
  refine ⟨fun op ready settled => ?_, fun op => ?_, fun op wrong => ⟨_, ?_, s.enterFault_faulted⟩⟩
  · have ends : exec (.settleEnd st) s =
        .next ((((s.withOp none).mountStep .identify).startOp .mount .identify).closeStep) := by
      have ready : busyFlag st = false := ready
      have settled : suspFlag st = false := settled
      simp [exec, execSettleEnd, op, ready, settled]
    rw [ends, State.startOp_identify (awake := by exact awake) (closed := by exact closed)]
    simp [State.mountStep, mount, State.withOp, State.withLink, State.withMount, State.withCtl]
  · have scans : exec (.identifyEnd 0x49 0x44 0x23) s = .next ((s.withOp none).scanFrom m 0).closeStep := by
      simp [exec, execIdentifyEnd, op, mount]
    rw [scans, State.scanFrom, State.startOp_read (h := by exact awake) (ho := .inr (.inr rfl))]
    simp [closed, positionAddr, State.withOp, State.withLink, State.withMount, State.withCtl]
  · simp only [exec, execIdentifyEnd, op, mount, if_neg wrong]

end Sys2Proof.Machine
end

section
namespace Sys2Proof.Machine

/-! ## An erase suspended and resumed -/

section
variable (s : State) (e : EraseRecord) (erasing : s.link.erasing = some e)
include erasing

/-- SUSPEND issued (R117, R119). -/
theorem State.suspendErase_eq (r : Run) (waiting : s.link.requests.hostRead = some r) :
    s.suspendErase =
      { s with
        link :=
          { s.link with
            erasing := some { e with accrued := e.accrued + (s.now - e.since), progress := .suspending s.now }
            requests := { s.link.requests with hostRead := some { r with committed := true } } }
        wire := s.wire ++ [.suspend, .poll] } := by
  simp [State.suspendErase, erasing, waiting, EraseRecord.runningTime, State.withErasing, State.withRequests, State.withLink,
    State.drive]

/-- A running erase whose guard has passed is suspended for a waiting host read run (R118). -/
theorem exec_progressGuardPasses_suspends (user : LinkUser) (p x : Nat)
    (op : s.link.op = some { user := user, op := .erase p, stage := .polling x }) (running : e.progress = .running)
    (passed : s.values.guard ≤ s.now - e.since) (waiting : s.link.requests.hostRead ≠ none) :
    exec .progressGuardPasses s = .next s.suspendErase.closeStep := by
  have guard : s.guardPassed = true := by simp [State.guardPassed, op, erasing, running, passed]
  simp [exec, execProgressGuardPasses, State.trySuspend, guard, Option.isSome_iff_ne_none.mpr waiting]

section
variable (since : Nat) (st : Byte) (suspending : e.progress = .suspending since)
include suspending

theorem exec_suspendStatus_busy (busy : st.getLsbD 0 = true) : exec (.suspendStatus st) s = .next s := by
  have busy : busyFlag st = true := busy
  simp [exec, execSuspendStatus, erasing, suspending, busy]

/-- SUSP set and BUSY clear: the link is left to the host read run outstanding (R119). -/
theorem exec_suspendStatus_suspended (waiting : s.link.requests.hostRead ≠ none) (ready : st.getLsbD 0 = false)
    (susp : st.getLsbD 2 = true) :
    exec (.suspendStatus st) s = .next (State.closeStep
      { s with link := { s.link with op := none, erasing := some { e with progress := .suspended } } }) := by
  have ready : busyFlag st = false := ready
  have susp : suspFlag st = true := susp
  have stays := ((s.withOp none).withErasing (some { e with progress := .suspended })).tryResume_outstanding waiting
  simp only [exec, execSuspendStatus, erasing, suspending, ready, susp, stays]
  rfl

/-- SUSP and BUSY clear: the erase has ended (R119). -/
theorem exec_suspendStatus_ended (ready : st.getLsbD 0 = false) (susp : st.getLsbD 2 = false) :
    exec (.suspendStatus st) s = .next (s.endErase e st).closeStep := by
  have ready : busyFlag st = false := ready
  have susp : suspFlag st = false := susp
  simp [exec, execSuspendStatus, erasing, suspending, ready, susp]

end

/-- SUSP clear after RESUME: the erase runs on, with its running time and its guard from the close of RESUME (R120). -/
theorem exec_resumeStatus_running (user : LinkUser) (p x since : Nat) (st : Byte)
    (op : s.link.op = some { user := user, op := .erase p, stage := .polling x }) (resuming : e.progress = .resuming since)
    (susp : st.getLsbD 2 = false) :
    exec (.resumeStatus st) s = .next (State.closeStep
      { s with link := { s.link with erasing := some { e with since := since, progress := .running } } }) := by
  have susp : suspFlag st = false := susp
  simp [exec, execResumeStatus, susp, op, erasing, resuming, State.withErasing, State.withLink]

end

/-- SUSP set after RESUME, and polling goes on (R120, R130). -/
theorem exec_resumeStatus_set (s : State) (st : Byte) (susp : st.getLsbD 2 = true) : exec (.resumeStatus st) s = .next s := by
  have susp : suspFlag st = true := susp
  simp [exec, execResumeStatus, susp]

/-! ## A settle -/

section
variable (s : State) (user : LinkUser) (first : Nat) (st : Byte)

theorem exec_settleEnd_busy (op : s.link.op = some { user := user, op := .settle, stage := .settling first none })
    (busy : st.getLsbD 0 = true) : exec (.settleEnd st) s = .next s := by
  have busy : busyFlag st = true := busy
  simp [exec, execSettleEnd, op, busy]

/-- A settle that finds an erase suspended issues RESUME (R130). -/
theorem exec_settleEnd_resumes (op : s.link.op = some { user := user, op := .settle, stage := .settling first none })
    (ready : st.getLsbD 0 = false) (susp : st.getLsbD 2 = true) :
    exec (.settleEnd st) s = .next (State.closeStep
      { s with
        link := { s.link with op := some { user := user, op := .settle, stage := .settling first (some s.now) } }
        wire := s.wire ++ [.resume, .poll] }) := by
  have ready : busyFlag st = false := ready
  have susp : suspFlag st = true := susp
  simp [exec, execSettleEnd, op, ready, susp, State.drive, State.setOp, State.withOp, State.withLink]

/-- SUSP clear after a settle's RESUME leads back to polling for BUSY (R130). -/
theorem exec_resumeStatus_settle (since : Nat)
    (op : s.link.op = some { user := user, op := .settle, stage := .settling first (some since) }) (susp : st.getLsbD 2 = false) :
    exec (.resumeStatus st) s = .next (State.closeStep
      { s with link := { s.link with op := some { user := user, op := .settle, stage := .settling first none } } }) := by
  have susp : suspFlag st = false := susp
  simp [exec, execResumeStatus, susp, op, State.setOp, State.withOp, State.withLink]

end

/-- Settles O49: an erase that a SUSPEND_STATUS finds ended leaves the state that its ERASE_END leaves, where the erase record, then
running, is dropped just the same. -/
theorem eraseSuspendedAndResumed : Obligations.EraseSuspendedAndResumed := by
  refine ⟨fun s e r p x since st erasing => ⟨fun op running passed waiting => ?_, fun suspending waiting ready susp => ?_,
    fun op suspending ready susp => ?_, fun suspending busy => ?_, fun _ susp => exec_resumeStatus_set s st susp,
    fun op resuming susp => ?_⟩, fun s user first since st => ⟨fun op => ⟨?_, ?_⟩, fun op => ⟨?_, ?_⟩⟩⟩
  · rw [exec_progressGuardPasses_suspends s e erasing e.user p x op running passed (by simp [waiting]),
      s.suspendErase_eq e erasing r waiting]
  · exact exec_suspendStatus_suspended s e erasing since st suspending (by simp [waiting]) ready susp
  · rw [exec_suspendStatus_ended s e erasing since st suspending ready susp,
      exec_eraseEnd (s := { s with link := { s.link with erasing := some { e with progress := .running } } }) (op := op)
        (erasing := rfl) (running := rfl) (ready := ready)]
    rfl
  · exact exec_suspendStatus_busy s e erasing since st suspending busy
  · exact exec_resumeStatus_running s e erasing e.user p x since st op resuming susp
  · exact exec_settleEnd_busy s user first st op
  · exact exec_settleEnd_resumes s user first st op
  · exact exec_resumeStatus_set s st
  · exact exec_resumeStatus_settle s user first st since op

/-! ## The end of a read that waits for its run -/

section
variable (s : State) (c : Cycle) (hc : s.port.cycle = some c) (waits : c.cond = .readWaiting)
include hc waits

/-- DATA_PHASE_END of a waiting read: its run ended, the cycle abandoned (R146). -/
theorem exec_dataPhaseEnd_readWaiting :
    exec .dataPhaseEnd s = .next (State.closeStep
      { s.endRun with
        port := { s.port with cycle := none, hwaitn := true, hfailn := true, hadLow := none, hadHigh := none } }) := by
  simp [exec, execDataPhaseEnd, hc, waits, State.endHeld, State.withPort, HostPort.release]

/-- READY_HOLD_LIMIT_EXPIRY of a waiting read: its run ended, the cycle error-terminated (R141). -/
theorem exec_readyHoldLimitExpiry_readWaiting (due : c.limit ≤ s.now - c.waitStart) :
    exec .readyHoldLimitExpiry s = .next (State.closeStep { s.endRun with port := s.port.refused c s.ctl.wide }) := by
  have held : CycleCond.readWaiting.held = true := rfl
  have terminated := s.endRun.errorTerminate_eq c (by simpa using hc)
  simp [exec, execReadyHoldLimitExpiry, hc, held, due, waits, State.endHeld, terminated, State.withPort]

end

/-- Settles O34: what becomes of the run is `State.endRun`. -/
theorem waitingReadEndsWithdrawingRun : Obligations.WaitingReadEndsWithdrawingRun := by
  intro s c r hc waits ended
  have ends : ∀ link : Link, s.endRun = { s with heldRun := none, link := link } → ended link := by
    intro link run
    refine ⟨?_, fun due => ?_⟩
    · rw [exec_dataPhaseEnd_readWaiting s c hc waits, run]
    · rw [exec_readyHoldLimitExpiry_readWaiting s c hc waits due, run]
  refine ⟨fun held => ends _ ?_, fun unheld outstanding => ends _ ?_, fun user addr stage unheld noRequest op => ends _ ?_⟩
  · obtain ⟨q, held⟩ := Option.ne_none_iff_exists'.mp held
    simp [State.endRun, held, State.withHeldRun]
  · simp only [State.endRun, unheld, outstanding]
    rw [← unheld]
    rfl
  · simp only [State.endRun, unheld, noRequest, op]
    rw [← unheld]
    rfl

end Sys2Proof.Machine
end

section
namespace Sys2Proof.Machine

/-! ## The arbiter's order -/

/-- An idle journal has a request of a requester's to begin (R75, R84). -/
def State.beginDue (s : State) (who : Requester) : Prop :=
  s.journal.activity = .idle ∧ ∃ q rest, s.journal.requests = q :: rest ∧
    (who = .commitEngine ↔ ∃ e, q = .append .commitEngine e)

theorem JournalRequest.requester_eq_iff (q : JournalRequest) (who : Requester) :
    q.requester = who ↔ (who = .commitEngine ↔ ∃ e, q = .append .commitEngine e) := by
  cases q with
  | record j => cases who <;> simp [JournalRequest.requester]
  | append asker e => cases asker <;> cases who <;> simp [JournalRequest.requester]

theorem State.dueFor_eq_some (s : State) (who : Requester) : s.journal.dueFor = some who ↔ s.beginDue who := by
  cases h : s.journal.requests <;> simp [Journal.dueFor, State.beginDue, h, JournalRequest.requester_eq_iff]

theorem State.dueAt_commit_iff (s : State) : s.dueAt .commit = true ↔
    (s.engine.job = none ∧ (s.ctl.mode = .ready ∨ s.ctl.mode = .drain) ∧ s.staging.queue ≠ []) ∨ s.beginDue .commitEngine := by
  simp [State.dueAt, s.takeDue_iff, s.dueFor_eq_some]

theorem State.dueAt_eraseJournal_iff (s : State) : s.dueAt .eraseJournal = true ↔ s.beginDue .eraseEngine := by
  simp [State.dueAt, s.dueFor_eq_some]

/-- The levels in R114's order, each that is due cutting off those below it (R115). -/
theorem State.firstInLine_eq (s : State) :
    s.firstInLine =
      if s.link.requests.hostRead.isSome then some .hostRead
      else if s.link.requests.commit.isSome then some .commit
      else if s.dueAt .commit then none
      else if s.link.requests.eraseJournal.isSome then some .eraseJournal
      else if s.dueAt .eraseJournal then none
      else if s.link.requests.erase then some .erase
      else none := by
  have hostRead : s.dueAt .hostRead = false := rfl
  have erase : s.dueAt .erase = false := rfl
  cases h1 : s.link.requests.hostRead.isSome
  case true => simp [State.firstInLine, Requests.holds, h1]
  cases h2 : s.link.requests.commit.isSome
  case true => simp [State.firstInLine, Requests.holds, h1, h2, hostRead]
  cases d2 : s.dueAt .commit
  case true => simp [State.firstInLine, Requests.holds, h1, h2, d2, hostRead]
  cases h3 : s.link.requests.eraseJournal.isSome
  case true => simp [State.firstInLine, Requests.holds, h1, h2, d2, h3, hostRead]
  cases d3 : s.dueAt .eraseJournal
  case true => simp [State.firstInLine, Requests.holds, h1, h2, d2, h3, d3, hostRead]
  cases h4 : s.link.requests.erase <;> simp [State.firstInLine, Requests.holds, h1, h2, d2, h3, d3, h4, hostRead, erase]

/-! ## What LINK_GRANT begins below the host's level -/

section
variable (s : State) (idle : s.link.op = none)
include idle

/-- On a free link a request is granted whose grant stands, or, where none stands, that is first in line (R115). -/
theorem State.award_eq_some (free : s.link.suspended = false) (l : Level) (holds : s.link.requests.holds l = true)
    (h : s.link.granted = some l ∨
      (∀ l, s.link.granted = some l → s.link.requests.holds l = false) ∧ s.firstInLine = some l) : s.award = some l := by
  rcases h with granted | ⟨noGrant, first⟩
  · exact s.award_stands l idle granted holds
  · rw [s.award_free idle noGrant free, first]

omit idle in
/-- A grant below the host's level changes no request (R115). -/
theorem State.arbitrate_below (l : Level) (award : s.award = some l) (below : l ≠ .hostRead) :
    s.arbitrate = s.withLink { s.link with granted := some l } := by
  simp [State.arbitrate, award, below]

theorem exec_linkGrant_commit (award : s.award = some .commit) (user : LinkUser) (o : FlashOp)
    (hq : s.link.requests.commit = some (user, o)) :
    exec .linkGrant s = .next ((s.withLink { s.link with granted := none }).grantCommit user o).closeStep := by
  rw [exec, execLinkGrant, if_pos (by simp [idle]), s.arbitrate_below .commit award nofun]
  simp [State.beginGranted, hq, State.withLink]

theorem exec_linkGrant_eraseJournal (award : s.award = some .eraseJournal) (o : FlashOp)
    (hq : s.link.requests.eraseJournal = some o) :
    exec .linkGrant s = .next
      ((s.withLink { s.link with granted := none, requests := { s.link.requests with eraseJournal := none } }).startOp
        .journal o).closeStep := by
  rw [exec, execLinkGrant, if_pos (by simp [idle]), s.arbitrate_below .eraseJournal award nofun]
  simp [State.beginGranted, hq, State.withLink, State.withRequests]

theorem exec_linkGrant_erase (award : s.award = some .erase) :
    exec .linkGrant s = .next
      (s.withLink { s.link with granted := none, requests := { s.link.requests with erase := false } }).grantErase.closeStep := by
  rw [exec, execLinkGrant, if_pos (by simp [idle]), s.arbitrate_below .erase award nofun]
  simp [State.beginGranted, State.withLink, State.withRequests]

end

/-- s once a program or an erase is begun, the pool and the requests outstanding as given: write enable under way (R110). -/
def State.writeBegun (s : State) (pool : SparePool) (requests : Requests) (user : LinkUser) (o : FlashOp) : State :=
  { s with
    pool := pool
    link := { s.link with requests := requests, stream := none, op := some { user := user, op := o, stage := .writeEnable } }
    wire := s.wire ++ ((if s.link.stream.isSome then [.closeStream] else []) ++ [.enableWrite, .status]) }

/-- A program or an erase begun out of a grant: the operation in progress makes the grant's record immaterial (R115). -/
theorem State.startOp_writeBegun (s : State) (pool : SparePool) (requests : Requests) (user : LinkUser) (o : FlashOp)
    (awake : s.link.power = .awake) (write : (∃ addr data, o = .program addr data) ∨ ∃ p, o = .erase p) :
    (({ s with pool := pool, link := { s.link with granted := none, requests := requests } } : State).startOp user o).closeStep =
      (s.writeBegun pool requests user o).closeStep := by
  rw [State.startOp_write (awake := by exact awake) (write := write)]
  exact State.closeStep_grant_dropped _ _ none (Option.some_ne_none _) rfl

/-! ## The erase engine's choice -/

theorem find?_ringAfter (f : Nat → Bool) (a d : Nat) (low : 1 ≤ d) (high : d ≤ 7) (found : f ((a + d) % 8) = true)
    (first : ∀ k, 1 ≤ k → k < d → f ((a + k) % 8) = false) : (ringAfter a).find? f = some ((a + d) % 8) := by
  have place : (List.range 7).find? (f ∘ fun i => (a + 1 + i) % 8) = some (d - 1) := by
    rw [List.find?_range_eq_some]
    refine ⟨?_, List.mem_range.mpr (by omega), fun i hi => ?_⟩
    · rw [Function.comp, show a + 1 + (d - 1) = a + d by omega, found]
    · rw [Function.comp, show a + 1 + i = a + (i + 1) by omega, first (i + 1) (by omega) (by omega)]
      rfl
  rw [ringAfter, List.find?_map, place, Option.map_some, show a + 1 + (d - 1) = a + d by omega]

/-- The sector d places after the active one in ring order is stale: usable and pending erase (R84). -/
def State.staleAfter (s : State) (d : Nat) : Prop :=
  ∃ a, s.journal.active = some a ∧ s.tables.usable ((a + d) % 8) = true ∧ flagAt s.journal.pendingErase ((a + d) % 8) = true

/-- The journal offers the first stale sector after the active one (R84). -/
theorem State.staleOffer_eq_some (s : State) (a d : Nat) (active : s.journal.active = some a) (low : 1 ≤ d) (high : d ≤ 7)
    (stale : s.staleAfter d) (first : ∀ k, 1 ≤ k → k < d → ¬s.staleAfter k) : s.staleOffer = some ((a + d) % 8) := by
  have offers : ∀ k, s.staleAfter k ↔
      (s.tables.usable ((a + k) % 8) && flagAt s.journal.pendingErase ((a + k) % 8)) = true := by
    simp [State.staleAfter, active]
  simp only [State.staleOffer, active]
  exact find?_ringAfter _ a d low high ((offers d).mp stale) fun k hl hk => by simpa using mt (offers k).mpr (first k hl hk)

/-- The journal offers none when no other sector is stale (R84). -/
theorem State.staleOffer_eq_none (s : State) (noneStale : ∀ k, 1 ≤ k → k ≤ 7 → ¬s.staleAfter k) : s.staleOffer = none := by
  unfold State.staleOffer
  split
  · next a active =>
    rw [List.find?_eq_none]
    intro j hj
    obtain ⟨i, hi, rfl⟩ := List.mem_map.mp hj
    have notStale := noneStale (i + 1) (by omega) (by have := List.mem_range.mp hi; omega)
    rw [show a + 1 + i = a + (i + 1) by omega]
    simpa [State.staleAfter, active] using notStale
  · rfl

/-- The grant of the erase engine's request begins the erase of the first stale journal sector (R96). -/
theorem State.grantErase_stale (s : State) (p : Nat) (ready : s.ctl.mode = .ready) (stale : s.staleOffer = some p) :
    s.grantErase = (s.withEraser (.erasingJournal p)).startOp .eraseEngine (.erase p) := by
  simp [State.grantErase, ready, stale]

/-- With no journal sector stale it begins the erase of the first dirty spare (R96). -/
theorem State.grantErase_dirty (s : State) (p : Nat) (ready : s.ctl.mode = .ready) (noneStale : s.staleOffer = none)
    (dirty : s.firstSpare .spareDirty p) :
    s.grantErase = (s.withEraser (.erasingSpare p)).startOp .eraseEngine (.erase p) := by
  have found : s.firstDirty = some p := (s.findSpare_eq_some _ p).mpr dirty
  simp [State.grantErase, ready, noneStale, found]

/-- Out of READY, or with neither, nothing is issued (R96). -/
theorem State.grantErase_nothing (s : State)
    (nothing : s.ctl.mode ≠ .ready ∨ s.staleOffer = none ∧ s.noSpare .spareDirty) : s.grantErase = s.withEraser .idle := by
  rcases nothing with mode | ⟨noneStale, noDirty⟩
  · simp [State.grantErase, mode]
  · have noDirty : s.firstDirty = none := (s.findSpare_eq_none _).mpr noDirty
    simp [State.grantErase, noneStale, noDirty]

end Sys2Proof.Machine
end

section
namespace Sys2Proof.Machine

/-! ## The grant at commit priority -/

section
variable (s : State)

theorem State.grantCommit_program (user : LinkUser) (addr : Nat) (data : List Byte) (awake : s.link.power = .awake) :
    ((s.withLink { s.link with granted := none }).grantCommit user (.program addr data)).closeStep =
      (s.writeBegun s.pool { s.link.requests with commit := none } user (.program addr data)).closeStep := by
  rw [← s.startOp_writeBegun s.pool _ user _ awake (.inl ⟨addr, data, rfl⟩)]
  cases user <;> rfl

/-- The spare to be erased for allocation is still dirty, its retirement not asked for and the latch clear (R92). -/
theorem State.grantCommit_fitSpare (p : Nat) (awake : s.link.power = .awake)
    (dirty : (s.tables.record p).state = some .spareDirty) (notPending : (s.tables.record p).retirePending = false)
    (clear : s.ctl.degraded = false) :
    ((s.withLink { s.link with granted := none }).grantCommit .commitEngine (.erase p)).closeStep =
      (s.writeBegun s.pool { s.link.requests with commit := none } .commitEngine (.erase p)).closeStep := by
  have eligible : s.tables.eligible p = true := by simp [Tables.eligible, notPending]
  rw [← s.startOp_writeBegun s.pool _ .commitEngine _ awake (.inr ⟨p, rfl⟩)]
  exact congrArg _ (if_pos ⟨dirty, eligible, clear⟩)

/-- It is no longer: the erase ends with nothing issued, and a target is asked for again (R92). -/
theorem State.grantCommit_unfitSpare (p : Nat)
    (unfit : (s.tables.record p).state ≠ some .spareDirty ∨ (s.tables.record p).retirePending = true ∨ s.ctl.degraded = true) :
    (s.withLink { s.link with granted := none }).grantCommit .commitEngine (.erase p) =
      State.requestTarget
        { s with link := { s.link with granted := none, requests := { s.link.requests with commit := none } } } := by
  refine if_neg ?_
  rintro ⟨dirty, eligible, clear⟩
  rcases unfit with notDirty | pending | set
  · exact notDirty dirty
  · simp [Tables.eligible, pending] at eligible
  · exact absurd (clear.symm.trans set) Bool.false_ne_true

end

/-- Settles O45: the arbiter's choice is `State.award`, in the order of `State.firstInLine_eq`; and a LINK_GRANT of a level below the
host's begins the request at that level as its requester's rule says. -/
theorem grantFollowsPriority : Obligations.GrantFollowsPriority := by
  unfold Obligations.GrantFollowsPriority
  intro noGrant takeDue beginDue
  have commitDue : ∀ s : State, s.dueAt .commit = true ↔ takeDue s ∨ beginDue s .commitEngine := State.dueAt_commit_iff
  have eraseJournalDue : ∀ s : State, s.dueAt .eraseJournal = true ↔ beginDue s .eraseEngine := State.dueAt_eraseJournal_iff
  refine ⟨fun s => ⟨s.award, rfl, s.award_busy, fun l => s.award_stands l, fun idle unmade => ⟨fun waiting => ?_,
    fun noRun suspended => ?_, fun noRun free => ?_⟩⟩, ?_⟩
  · obtain ⟨r, waiting⟩ := Option.ne_none_iff_exists'.mp waiting
    exact s.award_hostRead r idle (fun l hl => .inr (unmade l hl)) waiting
  · rw [s.award_suspended idle unmade suspended, noRun]
    rfl
  · rw [s.award_free idle unmade free, s.firstInLine_eq, noRun]
    refine ⟨fun h => ?_, fun h due => ?_, fun h notTake notBegin => ⟨fun h' => ?_, fun h' due => ?_, fun h' notDue => ?_⟩⟩
    · simp [Option.isSome_iff_ne_none.mpr h]
    · simp [h, (commitDue s).mpr due]
    · simp [h, commitDue, notTake, notBegin, Option.isSome_iff_ne_none.mpr h']
    · simp [h, commitDue, notTake, notBegin, h', (eraseJournalDue s).mpr due]
    · simp [h, commitDue, notTake, notBegin, h', eraseJournalDue, notDue]
  intro s user addr p data idle free awake begun noCommit noErase stale
  refine ⟨fun mayGrant => ?_, fun mayGrant request => ?_, fun mayGrant request => ?_⟩
  · have grants : ∀ user o, s.link.requests.commit = some (user, o) →
        exec .linkGrant s = .next ((s.withLink { s.link with granted := none }).grantCommit user o).closeStep := by
      intro user o request
      refine exec_linkGrant_commit s idle (s.award_eq_some idle free .commit ?_ ?_) user o request
      · simp [Requests.holds, request]
      · exact mayGrant.imp id fun ⟨unmade, noRun⟩ => ⟨unmade, by simp [s.firstInLine_eq, noRun, request]⟩
    refine ⟨fun request => ?_, fun request dirty notPending clear => ?_, fun j law request hj unfit => ?_⟩
    · rw [grants _ _ request, s.grantCommit_program user addr data awake]
      rfl
    · rw [grants _ _ request, s.grantCommit_fitSpare p awake dirty notPending clear]
      rfl
    · exact ⟨_, grants _ _ request, s.grantCommit_unfitSpare p unfit ▸
        State.requestTarget_targetAnswered _ j (law.congr rfl rfl rfl) hj⟩
  · have award : s.award = some .eraseJournal := by
      refine s.award_eq_some idle free .eraseJournal (by simp [Requests.holds, request]) (mayGrant.imp id ?_)
      rintro ⟨unmade, noRun, noCommit, notTake, notBegin⟩
      exact ⟨unmade, by simp [s.firstInLine_eq, noRun, noCommit, commitDue, notTake, notBegin, request]⟩
    rw [exec_linkGrant_eraseJournal s idle award _ request]
    exact congrArg _ (s.startOp_writeBegun s.pool _ .journal _ awake (.inl ⟨addr, data, rfl⟩))
  · have award : s.award = some .erase := by
      refine s.award_eq_some idle free .erase request (mayGrant.imp id ?_)
      rintro ⟨unmade, noRun, noCommit, noEraseJournal, notTake, notBegin⟩
      exact ⟨unmade, by
        simp [s.firstInLine_eq, noRun, noCommit, commitDue, notTake, notBegin, noEraseJournal, eraseJournalDue, request]⟩
    rw [exec_linkGrant_erase s idle award]
    refine ⟨fun a d ready active low high place first others => ?_, fun ready noneStale dirty => ?_, fun nothing => ?_⟩
    · have offered : s.staleOffer = some p := place ▸ s.staleOffer_eq_some a d active low high first others
      rw [State.grantErase_stale (p := p) (ready := by exact ready) (stale := by exact offered)]
      exact congrArg _ (s.startOp_writeBegun { s.pool with eraser := .erasingJournal p } noErase .eraseEngine _ awake
        (.inr ⟨p, rfl⟩))
    · have noOffer := s.staleOffer_eq_none noneStale
      rw [State.grantErase_dirty (p := p) (ready := by exact ready) (noneStale := by exact noOffer) (dirty := by exact dirty)]
      exact congrArg _ (s.startOp_writeBegun { s.pool with eraser := .erasingSpare p } noErase .eraseEngine _ awake
        (.inr ⟨p, rfl⟩))
    · have nothing := nothing.imp id fun ⟨noneStale, noDirty⟩ => And.intro (s.staleOffer_eq_none noneStale) noDirty
      rw [State.grantErase_nothing (nothing := by exact nothing)]
      rfl

end Sys2Proof.Machine
end

section
namespace Sys2Proof.Machine

/-! ## HLAT_FALL -/

/-- In reset a falling edge of HSTBn opens no cycle (R148). -/
theorem exec_dataPhaseStart_inReset (hdir hlanen : Bool) (had : BitVec 16) (s : State) (reset : s.inReset = true) :
    exec (.dataPhaseStart hdir hlanen had) s = .next s := by
  simp [exec, execDataPhaseStart, reset]

/-- The end of a data phase that opened no cycle changes nothing (R148). -/
theorem exec_dataPhaseEnd_idle (s : State) (idle : s.port.cycle = none) : exec .dataPhaseEnd s = .next s := by
  simp [exec, execDataPhaseEnd, idle]

/-- The edge of HLAT latches the address where it is taken: out of reset with no cycle in progress (R132, R148). -/
theorem exec_hlatFall (had : BitVec 16) (hau : BitVec 4) (s : State) :
    exec (.hlatFall had hau) s =
      .next (if s.inReset = true ∨ s.port.cycle.isSome = true then s
        else { s with port := { s.port with latched := hau ++ had } }) := rfl

/-- Settles O22: the three clauses are the branches of the edge's condition. -/
theorem addressLatchedOutsideDataPhase : Obligations.AddressLatchedOutsideDataPhase := by
  intro hdir hlanen had hau s
  refine ⟨fun running idle => ?_, fun cycle => ?_, fun reset => ⟨?_, ?_, ?_⟩⟩
  · rw [exec_hlatFall, if_neg (by simp [running, idle])]
  · rw [exec_hlatFall, if_pos (.inr (Option.isSome_iff_ne_none.mpr cycle))]
  · rw [exec_hlatFall, if_pos (.inl reset)]
  · exact exec_dataPhaseStart_inReset hdir hlanen had s reset
  · exact exec_dataPhaseEnd_idle _ rfl

/-! ## The access checks -/

/-- In MOUNTING and FORMATTING a cycle stays held for the mount (R138). -/
theorem State.applyChecks_mount (s : State) (mount : s.ctl.mode = .mounting ∨ s.ctl.mode = .formatting) : s.applyChecks = s := by
  cases cycle : s.port.cycle with
  | none => simp [State.applyChecks, cycle]
  | some c => rcases mount with mode | mode <;> simp [State.applyChecks, cycle, mode]

/-- The record lock refuses a write with a byte in the record while SVC is 0 (R139). -/
theorem State.lockRefuses_iff (s : State) (c : Cycle) :
    s.lockRefuses c = true ↔ s.values.lock = true ∧ s.ctl.svc = false ∧ ∃ b ∈ c.bytes, b.addr.toNat ≤ 0x3F := by
  simp [State.lockRefuses, inRecord, and_assoc]

/-- The protected ranges refuse a write to a sector of theirs while SVC is 0 (R140). -/
theorem State.rangeRefuses_iff (s : State) (c : Cycle) :
    s.rangeRefuses c = true ↔
      s.ctl.svc = false ∧ ∃ r ∈ s.values.ranges, r.1 ≤ c.addr.toNat / 4096 ∧ c.addr.toNat / 4096 ≤ r.2 := by
  simp only [State.rangeRefuses, Bool.and_eq_true, Bool.not_eq_true', Values.isProtected_iff, logicalSectorOf]

/-- A write that the record lock or a protected range refuses is error-terminated (R139, R140). -/
theorem State.checkWrite_refused (s : State) (c : Cycle) (refuses : s.lockRefuses c = true ∨ s.rangeRefuses c = true) :
    s.checkWrite c = s.errorTerminate := by
  by_cases lock : s.lockRefuses c = true
  · rw [State.checkWrite, if_pos lock]
  · rw [State.checkWrite, if_neg lock, if_pos (refuses.resolve_left lock)]

section
variable (s : State) (c : Cycle) (hc : s.port.cycle = some c)
include hc

/-- The mode check: no cycle passes in HALTED and FAULT, no write in READ_ONLY and DRAIN (R137). -/
theorem State.applyChecks_modeRefuses
    (refuses : s.ctl.mode = .halted ∨ s.ctl.mode = .fault ∨ c.isRead = false ∧ (s.ctl.mode = .readOnly ∨ s.ctl.mode = .drain)) :
    s.applyChecks = s.errorTerminate := by
  rcases refuses with mode | mode | ⟨write, mode | mode⟩
  · simp [State.applyChecks, hc, mode]
  · simp [State.applyChecks, hc, mode]
  · simp [State.applyChecks, hc, mode, write]
  · simp [State.applyChecks, hc, mode, write]

/-- A cycle that names no byte and passes the mode check is answered at once (R135, R137). -/
theorem State.applyChecks_noByte (noByte : c.bytes = [])
    (passes : s.ctl.mode = .ready ∨ c.isRead = true ∧ (s.ctl.mode = .readOnly ∨ s.ctl.mode = .drain)) :
    s.applyChecks = s.answer [] := by
  rcases passes with mode | ⟨read, mode | mode⟩
  · simp [State.applyChecks, hc, mode, noByte]
  · simp [State.applyChecks, hc, mode, noByte, read]
  · simp [State.applyChecks, hc, mode, noByte, read]

/-- In READY a write that names a byte goes to the checks on writes (R137, R139). -/
theorem State.applyChecks_write (ready : s.ctl.mode = .ready) (write : c.isRead = false) (named : c.bytes ≠ []) :
    s.applyChecks = s.checkWrite c := by
  simp [State.applyChecks, hc, ready, write, named]

end

/-- A cycle opened and error-terminated in the same act shows the pins of a refused one (R133, R145). -/
theorem State.errorTerminate_opened (s : State) (c : Cycle) :
    (s.opened c).errorTerminate = { s with port := s.port.refused c s.ctl.wide } := by
  rw [State.errorTerminate_eq _ c rfl]
  rfl

/-- Settles O23: the cycle that a data phase opens has the limit of the mount, and the checks leave it held. -/
theorem cycleHeldForMount : Obligations.CycleHeldForMount := by
  intro hdir hlanen had s running idle mount
  have limit : (s.openCycle hdir hlanen had).limit = 500 := by
    rcases mount with mode | mode <;> simp [State.openCycle, mode, Mode.isMount, mountHold]
  rw [exec_dataPhaseStart hdir hlanen had s running idle, State.applyChecks_mount (s.opened _) mount, ← limit]
  rfl

/-- Settles O24: the mode check refuses, or the write passes it and the record lock or a protected range refuses. -/
theorem checksRefuseCycle : Obligations.ChecksRefuseCycle := by
  intro hdir hlanen had s running idle refused
  have checked : (s.opened (s.openCycle hdir hlanen had)).applyChecks =
      (s.opened (s.openCycle hdir hlanen had)).errorTerminate := by
    rcases refused with byMode | ⟨ready, write, named, svc, byWrite⟩
    · exact State.applyChecks_modeRefuses _ _ rfl byMode
    · rw [State.applyChecks_write (s.opened (s.openCycle hdir hlanen had)) _ rfl ready write named]
      apply State.checkWrite_refused
      rcases byWrite with ⟨lock, locked⟩ | inRange
      · exact .inl ((State.lockRefuses_iff _ _).mpr ⟨lock, svc, locked⟩)
      · exact .inr ((State.rangeRefuses_iff _ _).mpr ⟨svc, inRange⟩)
  rw [exec_dataPhaseStart hdir hlanen had s running idle, checked, State.errorTerminate_opened]

/-! ## The bytes a cycle names -/

/-- The bytes of a cycle in a 16-bit port, by A0 and HLANEn (R135). -/
theorem cycleBytes_wide (hlanen : Bool) (a : LogAddr) (had : BitVec 16) :
    cycleBytes true hlanen a had =
      if a.getLsbD 0 then (if hlanen then [] else [cycleByte had .high a])
      else if hlanen then [cycleByte had .low a] else [cycleByte had .low a, cycleByte had .high (a + 1)] := by
  simp only [cycleBytes, if_true]
  cases a.getLsbD 0 <;> cases hlanen <;> rfl

/-- The address after an even one lies in the same page (R1). -/
theorem pageOf_add_one_of_even (a : LogAddr) (even : a.getLsbD 0 = false) : pageOf (a + 1) = pageOf a := by
  obtain ⟨even, next⟩ := LogAddr.toNat_add_one_of_even a even
  simp only [pageOf, next]
  omega

/-- All bytes of a cycle lie in the page of its address (R134, R135). -/
theorem pageOf_cycleBytes (wide hlanen : Bool) (a : LogAddr) (had : BitVec 16) :
    ∀ b ∈ cycleBytes wide hlanen a had, pageOf b.addr = pageOf a := by
  cases wide with
  | false => simp [cycleBytes, cycleByte]
  | true =>
    rw [cycleBytes_wide]
    cases odd : a.getLsbD 0 with
    | true => cases hlanen <;> simp [cycleByte]
    | false =>
      cases hlanen with
      | true => simp [cycleByte]
      | false =>
        intro b hb
        rcases List.mem_pair.mp hb with rfl | rfl
        · rfl
        · exact pageOf_add_one_of_even a odd

/-- A cycle that names no byte answered in a 16-bit port: a read drives all ones (R135, R136). -/
theorem State.answer_noByte (s : State) (c : Cycle) (noByte : c.bytes = []) (wide : s.ctl.wide = true) :
    (s.opened c).answer [] =
      { s with
        port :=
          { s.port with
            hwaitn := true
            cycle := some { c with cond := .answered }
            hadLow := if c.isRead then some 0xFF else s.port.hadLow
            hadHigh := if c.isRead then some 0xFF else s.port.hadHigh } } := by
  have ones (lane : Lane) : laneValue c.bytes [] lane = 0xFF := laneValue_absent _ _ lane (by simp [noByte])
  by_cases read : c.isRead = true
  · have wide' : (s.opened c).ctl.wide = true := wide
    rw [State.answer_read _ c [] rfl read, ones, ones, if_pos wide', if_pos read, if_pos read]
    rfl
  · rw [State.answer_write _ c [] rfl (by simpa using read), if_neg read, if_neg read]
    rfl

/-- Settles O25: the table of a cycle's bytes, and its row of none in the checks. -/
theorem cycleNamingNoByteAnswered : Obligations.CycleNamingNoByteAnswered := by
  refine ⟨fun hlanen a had => ⟨rfl, cycleBytes_wide hlanen a had, fun wide => pageOf_cycleBytes wide hlanen a had⟩, ?_⟩
  intro hdir had s running idle wide odd passes
  have noByte : (s.openCycle hdir true had).bytes = [] := by
    simp only [State.openCycle, wide, cycleBytes_wide, odd, if_true]
  rw [exec_dataPhaseStart hdir true had s running idle,
    State.applyChecks_noByte (s.opened (s.openCycle hdir true had)) _ rfl noByte passes,
    State.answer_noByte s _ noByte wide]
  rfl

/-! ## The end of a cycle that waits for no run -/

/-- The end of a cycle's hold where no read waits: a waiting write is withdrawn, and nothing else changes (R27, R141, R146). -/
theorem State.endHeld_noRun (s : State) (cond : CycleCond) (noRun : cond ≠ .readWaiting) :
    s.endHeld cond =
      { s with staging := { s.staging with waiting := if cond = .writeWaiting then none else s.staging.waiting } } := by
  cases cond with
  | readWaiting => exact absurd rfl noRun
  | writeWaiting => rfl
  | heldForMount => rfl
  | answered => rfl
  | answeredError => rfl

section
variable (s : State) (c : Cycle) (hc : s.port.cycle = some c)
include hc

/-- DATA_PHASE_END of a cycle: its hold ended, the port released (R133, R145, R146). -/
theorem exec_dataPhaseEnd :
    exec .dataPhaseEnd s = .next ((s.endHeld c.cond).withPort (s.endHeld c.cond).port.release).closeStep := by
  simp [exec, execDataPhaseEnd, hc]

/-- An expiry that finds the cycle held ends its hold and error-terminates it (R141). -/
theorem exec_readyHoldLimitExpiry_held (held : c.cond.held = true) (due : c.limit ≤ s.now - c.waitStart) :
    exec .readyHoldLimitExpiry s =
      .next ((s.endHeld c.cond).withPort (s.port.refused c s.ctl.wide)).closeStep := by
  have terminated := (s.endHeld c.cond).errorTerminate_eq c (by simpa using hc)
  simp [exec, execReadyHoldLimitExpiry, hc, held, due, terminated]

/-- An expiry that finds the cycle answered does nothing (R142). -/
theorem exec_readyHoldLimitExpiry_answered (answered : c.cond.held = false) : exec .readyHoldLimitExpiry s = .next s := by
  simp [exec, execReadyHoldLimitExpiry, hc, answered]

end

/-- Settles O33: the hold ended, the port's record and pins are those of no cycle. -/
theorem dataPhaseEndReleasesPins : Obligations.DataPhaseEndReleasesPins := by
  intro s c hc noRun
  rw [exec_dataPhaseEnd s c hc, State.endHeld_noRun s c.cond noRun]
  rfl

/-- Settles O35: what the expiry does turns on whether the cycle is held. -/
theorem holdLimitEndsHeldCycle : Obligations.HoldLimitEndsHeldCycle := by
  intro s c hc due
  refine ⟨fun mount => ?_, fun waits => ?_, fun answered => ?_⟩
  · rw [exec_readyHoldLimitExpiry_held s c hc (by rw [mount]; rfl) due, mount]
    rfl
  · rw [exec_readyHoldLimitExpiry_held s c hc (by rw [waits]; rfl) due, waits]
    rfl
  · exact exec_readyHoldLimitExpiry_answered s c hc (by rcases answered with h | h <;> rw [h] <;> rfl)

/-! ## RSTN_ASSERT and POWER_ON -/

/-- What the closing of a stream leaves on the wire (R124). -/
theorem State.closeStream_wire_eq (s : State) :
    s.closeStream.wire = if s.link.stream.isSome then s.wire ++ [.closeStream] else s.wire := by
  rw [State.closeStream_eq]
  cases s.link.stream <;> simp

/-- Settles O42: both commands are `State.resetBlocks`, the assertion after the stream is closed. -/
theorem resetCommandsResetEveryBlock : Obligations.ResetCommandsResetEveryBlock := by
  refine fun s => ⟨?_, rfl⟩
  show Host.Outcome.next (s.closeStream.resetBlocks true s.ctl.internalReset) = _
  rw [State.resetBlocks, State.closeStream_wire_eq, State.closeStream_now, State.closeStream_pending]
  rfl

end Sys2Proof.Machine
end

section
namespace Sys2Proof.Machine

/-! ## FILLING slots sealed one after the other -/

/-- h is g with the slots of l sealed one after the other (R28): each SEALED without rank, the list at the queue's tail, and every
other slot as it was but for its rank, which can only drop. -/
structure Staging.SealedThese (g h : Staging) (l : List Nat) : Prop where
  sealed : ∀ i ∈ l, h.slot i = { g.slot i with state := .sealed, rank := none }
  others : ∀ k ∉ l, ∃ drop, h.slot k = { g.slot k with rank := (g.slot k).rank.map drop }
  queue : h.queue = g.queue ++ l
  waiting : h.waiting = g.waiting

/-- Sealing a slot leaves every other one FILLING or not, and with a rank or without, as it was; so the slots of a list are sealed
each in its turn. -/
theorem Staging.foldl_sealSlot_sealedThese (l : List Nat) (once : l.Nodup) (g : Staging)
    (ranked : ∀ i ∈ l, (g.slot i).state = .filling ∧ (g.slot i).rank.isSome = true) :
    g.SealedThese (l.foldl Staging.sealSlot g) l := by
  induction l generalizing g with
  | nil => exact ⟨nofun, fun k _ => ⟨id, by simp⟩, by simp, rfl⟩
  | cons i l ih =>
    obtain ⟨fresh, once⟩ := List.nodup_cons.mp once
    obtain ⟨filling, hasRank⟩ := ranked i List.mem_cons_self
    obtain ⟨r, rank⟩ := Option.isSome_iff_exists.mp hasRank
    have other := g.slot_sealSlot_other i r filling rank
    obtain ⟨sealed, others, queue, waiting⟩ := ih once (g.sealSlot i) fun k hk => by
      rw [other k fun h => fresh (h ▸ hk)]
      simpa using ranked k (List.mem_cons_of_mem i hk)
    refine ⟨fun k hk => ?_, fun k hk => ?_, ?_, ?_⟩
    · rcases List.mem_cons.mp hk with rfl | hk
      · obtain ⟨drop, h⟩ := others k fresh
        rw [List.foldl_cons, h, g.slot_sealSlot_self k r filling rank]
        rfl
      · rw [List.foldl_cons, sealed k hk, other k fun h => fresh (h ▸ hk)]
    · obtain ⟨ne, hk⟩ := not_or.mp (List.mem_cons.not.mp hk)
      obtain ⟨drop, h⟩ := others k hk
      rw [List.foldl_cons, h, other k ne]
      exact ⟨_, by rw [Option.map_map]⟩
    · rw [List.foldl_cons, queue, g.sealSlot_queue i r filling rank, List.append_assoc]
      rfl
    · rw [List.foldl_cons, waiting, g.sealSlot_waiting i r filling rank]

/-! ## The seal-all -/

theorem Staging.mem_fillingInOrder (g : Staging) (i : Nat) :
    i ∈ g.fillingInOrder ↔ i < 16 ∧ (g.slot i).state = .filling := by
  simp [Staging.fillingInOrder, slotNumbers, Config.slotCount]

theorem Staging.fillingInOrder_nodup (g : Staging) : g.fillingInOrder.Nodup :=
  (List.perm_insertionSort _ _).nodup_iff.mpr (List.nodup_range.filter _)

section
variable {s : State} (law : s.StagingLaw)
include law

/-- A FILLING slot has a rank, which no other one has, so that the order by rank is strict (R18). -/
theorem State.StagingLaw.fillingInOrder_pairwise_lt :
    s.staging.fillingInOrder.Pairwise fun i k => (s.staging.slot i).rank.getD 0 < (s.staging.slot k).rank.getD 0 := by
  have sorted : s.staging.fillingInOrder.Pairwise fun i k =>
      (s.staging.slot i).rank.getD 0 ≤ (s.staging.slot k).rank.getD 0 :=
    pairwise_insertionSort_key (fun j => (s.staging.slot j).rank.getD 0) _
  refine (List.pairwise_and_iff.mpr ⟨sorted, s.staging.fillingInOrder_nodup⟩).imp_of_mem ?_
  rintro i k hi hk ⟨le, ne⟩
  obtain ⟨hi, fillingI⟩ := (s.staging.mem_fillingInOrder i).mp hi
  obtain ⟨hk, fillingK⟩ := (s.staging.mem_fillingInOrder k).mp hk
  obtain ⟨r, rankI⟩ := Option.isSome_iff_exists.mp ((law.rank i hi).mpr fillingI)
  obtain ⟨q, rankK⟩ := Option.isSome_iff_exists.mp ((law.rank k hk).mpr fillingK)
  refine lt_of_le_of_ne le fun same => ne (law.rankOnce i hi k hk (by simp [rankI]) ?_)
  simpa [rankI, rankK] using same

/-- A seal-all seals every FILLING slot and appends them in rank order (R29). -/
theorem State.StagingLaw.sealAll_sealedAll : s.staging.SealedAll s.staging.sealAll := by
  have mem := s.staging.mem_fillingInOrder
  obtain ⟨sealed, others, queue, waiting⟩ :=
    s.staging.foldl_sealSlot_sealedThese _ s.staging.fillingInOrder_nodup fun i hi =>
      ⟨((mem i).mp hi).2, (law.rank i ((mem i).mp hi).1).mpr ((mem i).mp hi).2⟩
  refine ⟨fun i hi filling => sealed i ((mem i).mpr ⟨hi, filling⟩), fun i hi other => ?_, waiting,
    _, queue, mem, law.fillingInOrder_pairwise_lt⟩
  obtain ⟨drop, h⟩ := others i fun hm => other ((mem i).mp hm).2
  have noRank : (s.staging.slot i).rank = none := by simpa using (law.rank i hi).not.mpr other
  rw [Staging.sealAll, h, noRank, Option.map_none, ← noRank]

end

section
variable {g h : Staging} (all : g.SealedAll h)
include all

/-- A slot is FREE after a seal-all exactly when it was before. -/
theorem Staging.SealedAll.free_iff (i : Nat) (hi : i < 16) : (h.slot i).state = .free ↔ (g.slot i).state = .free := by
  by_cases filling : (g.slot i).state = .filling
  · simp [all.sealed i hi filling, filling]
  · rw [all.others i hi filling]

theorem Staging.SealedAll.count_free : h.count .free = g.count .free :=
  List.countP_congr fun i hi => by simpa using all.free_iff i (List.mem_range.mp hi)

/-- No slot is FILLING after a seal-all. -/
theorem Staging.SealedAll.count_filling : h.count .filling = 0 := by
  refine (h.count_eq_zero .filling).mpr fun i hi => ?_
  by_cases filling : (g.slot i).state = .filling
  · simp [all.sealed i hi filling]
  · rwa [all.others i hi filling]

end

/-- All that a seal-all changes: both counts stop if a slot was FILLING (R29, R152). -/
theorem State.StagingLaw.sealAll_eq {s : State} (law : s.StagingLaw) :
    s.sealAll =
      { s with
        staging := s.staging.sealAll
        timer := if s.staging.count .filling = 0 then s.timer else .stopped } := by
  rw [State.sealAll, State.withStagingReport_eq, law.sealAll_sealedAll.count_filling]
  by_cases empty : s.staging.count .filling = 0 <;> simp [empty]

/-- A seal-all with both counts stopped first leaves them stopped (R153). -/
theorem State.StagingLaw.sealAll_stopped {s : State} (law : s.StagingLaw) :
    (s.withTimer .stopped).sealAll = { s with staging := s.staging.sealAll, timer := .stopped } := by
  have stopped : (s.withTimer .stopped).StagingLaw := law.congr rfl rfl rfl
  rw [stopped.sealAll_eq]
  by_cases empty : s.staging.count .filling = 0 <;> simp [State.withTimer, empty]

/-- FLUSH seals all, but in reset (R154). -/
theorem exec_flushRisingEdge (s : State) : exec .flushRisingEdge s = .next (if s.inReset then s else s.sealAll.closeStep) := rfl

/-- A count that has run for its interval is due (R149). -/
theorem countDue_of_le (since intervalMs now : Nat) (due : intervalMs * 1000 ≤ now - since) :
    countDue (some since) intervalMs now = true :=
  decide_eq_true due

section
variable (s : State) (since : Nat)

/-- The quiet count's expiry stops both counts and seals all (R153). -/
theorem exec_quietCountExpiry (quiet : s.timer.quiet = some since) (due : s.values.quietMs * 1000 ≤ s.now - since) :
    exec .quietCountExpiry s = .next (s.withTimer .stopped).sealAll.closeStep := by
  simp [exec, execQuietCountExpiry, quiet, countDue_of_le since _ _ due]

/-- The hold count's expiry stops both counts and seals all (R153). -/
theorem exec_holdCountExpiry (hold : s.timer.hold = some since) (due : s.values.holdMs * 1000 ≤ s.now - since) :
    exec .holdCountExpiry s = .next (s.withTimer .stopped).sealAll.closeStep := by
  simp [exec, execHoldCountExpiry, hold, countDue_of_le since _ _ due]

end

/-- Settles O37: the three commands seal all by `State.sealAll`, the expiries with both counts stopped first. -/
theorem sealAllQueuesFillingSlots : Obligations.SealAllQueuesFillingSlots := by
  intro s law
  have sealed := law.sealAll_sealedAll
  refine ⟨fun running => ?_, fun reset => ?_, fun since quiet due => ?_, fun since hold due => ?_⟩
  · rw [exec_flushRisingEdge, running, law.sealAll_eq]
    exact ⟨_, rfl, sealed, rfl⟩
  · rw [exec_flushRisingEdge, reset]
    rfl
  · rw [exec_quietCountExpiry s since quiet due, law.sealAll_stopped]
    exact ⟨_, rfl, sealed, rfl⟩
  · rw [exec_holdCountExpiry s since hold due, law.sealAll_stopped]
    exact ⟨_, rfl, sealed, rfl⟩

/-! ## The mode changed, and the drain's test -/

/-- Out of any mode but READY a change of mode takes nothing with it. -/
theorem State.setMode_notReady (s : State) (m : Mode) (notReady : s.ctl.mode ≠ .ready) :
    s.setMode m = { s with ctl := { s.ctl with mode := m } } := by
  simp [State.setMode, notReady, State.withCtl]

/-- The drain is finished: every slot FREE and no job (R157). -/
theorem State.drained_iff (s : State) :
    s.drained = true ↔ (∀ i < 16, (s.staging.slot i).state = .free) ∧ s.engine.job = none := by
  simp [State.drained, Staging.allFree_iff]

/-- All sixteen slots are FREE when that many are. -/
theorem Staging.allFree_iff_count (g : Staging) : g.allFree = true ↔ g.count .free = 16 := by
  have all := List.countP_eq_length (p := fun i => (g.slot i).state == .free) (l := slotNumbers)
  simpa [Staging.allFree, Staging.count, slotNumbers, Config.slotCount] using all.symm

/-- The drain's test in DRAIN (R157). -/
theorem State.drainTest_of_drain (s : State) (drain : s.ctl.mode = .drain) :
    s.drainTest =
      { s with
        ctl :=
          { s.ctl with mode := if s.engine.job = none ∧ s.staging.count .free = 16 then .halted else .drain } } := by
  have drained : s.drained = true ↔ s.engine.job = none ∧ s.staging.count .free = 16 := by
    rw [State.drained, Bool.and_eq_true, Staging.allFree_iff_count, Option.isNone_iff_eq_none, and_comm]
  rw [State.drainTest_eq]
  by_cases finished : s.drained = true
  · rw [if_pos ⟨drain, finished⟩, if_pos (drained.mp finished)]
    rfl
  · rw [if_neg fun h => finished h.2, if_neg fun h => finished (drained.mpr h), ← drain]

/-! ## CLEAN and MODE[2:0] -/

/-- The map is in force in READY, READ_ONLY, DRAIN and HALTED (R3, R164). -/
theorem Mode.inForce_iff (m : Mode) : m.inForce = true ↔ m = .ready ∨ m = .readOnly ∨ m = .drain ∨ m = .halted := by
  cases m <;> simp [Mode.inForce]

/-- Settles O11: CLEAN is driven by the modes with the map in force. -/
theorem cleanAndModePinsShowState : Obligations.CleanAndModePinsShowState := by
  intro s
  have clean : s.clean = true ↔ s.ctl.mode.inForce = true ∧ s.staging.allFree = true := Bool.and_eq_true_iff
  have pins : ∀ m, s.ctl.mode = m → s.modePins = m.code := fun _ => congrArg Mode.code
  rw [clean, Mode.inForce_iff, Staging.allFree_iff]
  exact ⟨.rfl, pins _, pins _, pins _, pins _, pins _, pins _, pins _⟩

/-! ## The power warning -/

section
variable (s : State) (running : s.inReset = false)
include running

/-- A warning in READ_ONLY (R158). -/
theorem exec_powerWarningAssertion_readOnly (unwarned : s.ctl.powerWarning = false) (readOnly : s.ctl.mode = .readOnly) :
    exec .powerWarningAssertion s =
      .next ((s.withCtl { s.ctl with powerWarning := true }).setMode .halted).closeStep := by
  simp [exec, execPowerWarningAssertion, running, unwarned, readOnly, State.withCtl]

/-- The end of a warning in DRAIN or HALTED (R160). -/
theorem exec_powerWarningDeassertion_draining (warned : s.ctl.powerWarning = true)
    (draining : s.ctl.mode = .drain ∨ s.ctl.mode = .halted) :
    exec .powerWarningDeassertion s =
      .next ((s.withCtl { s.ctl with powerWarning := false }).setMode
        (if s.ctl.degraded then .readOnly else .ready)).closeStep := by
  rcases draining with mode | mode <;> simp [exec, execPowerWarningDeassertion, running, warned, mode, State.withCtl]

end

/-- Settles O39: READ_ONLY is not READY, so that nothing is withdrawn. -/
theorem powerWarningHaltsReadOnly : Obligations.PowerWarningHaltsReadOnly := by
  intro s running unwarned readOnly
  rw [exec_powerWarningAssertion_readOnly s running unwarned readOnly, State.setMode_notReady _ _ (by simp [readOnly])]
  rfl

/-- Settles O40: both commands change the mode alone, and DRAIN_FINISHED does so exactly when the drain is finished. -/
theorem drainEndsOrWarningClears : Obligations.DrainEndsOrWarningClears := by
  intro s
  have tested : exec .drainFinished s = .next s.drainTest.closeStep := rfl
  refine ⟨fun drain free noJob => ?_, fun drain busy => ?_, fun running warned draining => ?_⟩
  · rw [tested, State.drainTest_eq, if_pos ⟨drain, s.drained_iff.mpr ⟨free, noJob⟩⟩]
    rfl
  · rw [tested, State.drainTest_eq, if_neg]
    rintro ⟨-, drained⟩
    obtain ⟨free, noJob⟩ := s.drained_iff.mp drained
    rcases busy with ⟨i, hi, held⟩ | job
    · exact held (free i hi)
    · exact job noJob
  · have notReady : s.ctl.mode ≠ .ready := by rcases draining with mode | mode <;> simp [mode]
    rw [exec_powerWarningDeassertion_draining s running warned draining, State.setMode_notReady _ _ (by exact notReady)]
    rfl

/-! ## The drain that a power warning begins -/

/-- A write waiting withdrawn: only the port and the waiting write change (R27). -/
theorem State.failWaiting_eq (s : State) :
    s.failWaiting = { s with port := s.failWaiting.port, staging := { s.staging with waiting := none } } := by
  cases waiting : s.staging.waiting <;> simp only [State.failWaiting, waiting]
  · rw [← waiting]
  · rfl

/-- The cycle of a write withdrawn is error-terminated (R27). -/
theorem State.failWaiting_port_some (s : State) (c : Cycle) (w : PageWrite) (cycle : s.port.cycle = some c)
    (waiting : s.staging.waiting = some w) : s.failWaiting.port = s.port.refused c s.ctl.wide := by
  rw [State.failWaiting, waiting]
  exact congrArg State.port (s.dropWaiting.errorTerminate_eq c cycle)

theorem State.failWaiting_port_none (s : State) (waiting : s.staging.waiting = none) : s.failWaiting.port = s.port := by
  rw [State.failWaiting, waiting]

/-- What a write withdrawn does to the port turns on none of the mode controller's fields but the width. -/
theorem State.failWaiting_port_withCtl (s : State) (x : ModeControl) (wide : x.wide = s.ctl.wide) :
    (s.withCtl x).failWaiting.port = s.failWaiting.port := by
  simp only [State.failWaiting, State.withCtl]
  cases s.staging.waiting
  · rfl
  · exact congrArg s.port.errorTerminate wide

/-- The erase engine's request withdrawn if it waits (R95). -/
theorem State.withdrawErase_eq (s : State) :
    s.withdrawErase =
      { s with
        pool := { s.pool with eraser := if s.pool.eraser = .requesting then .idle else s.pool.eraser }
        link :=
          { s.link with
            requests :=
              { s.link.requests with erase := if s.pool.eraser = .requesting then false else s.link.requests.erase } } } := by
  rw [State.withdrawErase]
  by_cases requesting : s.pool.eraser = .requesting
  · simp only [requesting, if_true]
    rfl
  · simp only [requesting, if_false]

/-- A seal-all is one of the same slots and queue with another waiting write. -/
theorem Staging.SealedAll.withWaiting {g h : Staging} {w : Option PageWrite}
    (all : ({ g with waiting := w } : Staging).SealedAll h) : g.SealedAll { h with waiting := g.waiting } :=
  ⟨all.sealed, all.others, rfl, all.queue⟩

theorem Staging.without_waiting (g : Staging) (noWrite : g.waiting = none) : { g with waiting := none } = g := by
  cases g
  simp_all

/-- A seal-all in DRAIN with the drain's test after it: what is sealed was not FREE, so that the test counts the FREE slots of the
state before (R29, R157). -/
theorem State.StagingLaw.sealAll_drainTest {s : State} (law : s.StagingLaw) (drain : s.ctl.mode = .drain) :
    s.sealAll.drainTest =
      { s with
        staging := s.staging.sealAll
        timer := if s.staging.count .filling = 0 then s.timer else .stopped
        ctl :=
          { s.ctl with mode := if s.engine.job = none ∧ s.staging.count .free = 16 then .halted else .drain } } := by
  rw [State.drainTest_of_drain _ (by rw [State.sealAll_ctl, drain]), law.sealAll_eq]
  simp only [law.sealAll_sealedAll.count_free]

/-- READY left for DRAIN at a power warning, before the seal-all: a waiting write and the erase engine's request withdrawn (R156,
R27, R95). -/
def State.drainBegun (s : State) : State :=
  { s with
    port := s.failWaiting.port
    staging := { s.staging with waiting := none }
    pool := { s.pool with eraser := if s.pool.eraser = .requesting then .idle else s.pool.eraser }
    link :=
      { s.link with
        requests :=
          { s.link.requests with erase := if s.pool.eraser = .requesting then false else s.link.requests.erase } }
    ctl := { s.ctl with powerWarning := true, mode := .drain } }

theorem State.setMode_drain_warned (s : State) (ready : s.ctl.mode = .ready) :
    (s.withCtl { s.ctl with powerWarning := true }).setMode .drain = s.drainBegun := by
  rw [State.setMode, if_pos ⟨ready, nofun⟩, State.withdrawErase_eq, State.failWaiting_eq,
    State.failWaiting_port_withCtl _ _ (by rfl), State.failWaiting_port_withCtl _ _ (by rfl)]
  rfl

/-- A warning in READY (R156). -/
theorem exec_powerWarningAssertion_ready (s : State) (running : s.inReset = false) (unwarned : s.ctl.powerWarning = false)
    (ready : s.ctl.mode = .ready) :
    exec .powerWarningAssertion s = .next s.drainBegun.sealAll.drainTest.closeStep := by
  rw [← s.setMode_drain_warned ready]
  simp [exec, execPowerWarningAssertion, running, unwarned, ready, State.withCtl]

/-- Settles O38: the mode leaves READY first, so that the seal-all finds no write waiting. -/
theorem powerWarningStartsDrain : Obligations.PowerWarningStartsDrain := by
  intro s law running unwarned ready
  have begunLaw : s.drainBegun.StagingLaw := law.congr rfl rfl rfl
  have sealed : ({ s.staging with waiting := none } : Staging).SealedAll s.drainBegun.staging.sealAll :=
    begunLaw.sealAll_sealedAll
  have issued := exec_powerWarningAssertion_ready s running unwarned ready
  rw [begunLaw.sealAll_drainTest rfl, ← Staging.without_waiting _ sealed.waiting] at issued
  refine ⟨_, { s.drainBegun.staging.sealAll with waiting := s.staging.waiting }, issued, sealed.withWaiting, rfl,
    fun c w cycle waiting => ?_, fun waiting => ?_⟩
  · rw [State.closeStep_port]
    exact s.failWaiting_port_some c w cycle waiting
  · rw [State.closeStep_port]
    exact s.failWaiting_port_none waiting

end Sys2Proof.Machine
end

section
namespace Sys2Proof.Machine

/-! ## The end of reset -/

/-- A wake for its own sake, with no stream open: POWER_UP, whatever the power state (R128, R130). -/
theorem State.startOp_wake (s : State) (user : LinkUser) (closed : s.link.stream = none) :
    s.startOp user .wake =
      { s with
        link := { s.link with power := .waking, op := some { user := user, op := .wake, stage := .waking s.now } }
        wire := s.wire ++ [.powerUp] } := by
  simp [State.startOp, State.firstCommand, State.closeStream, closed, State.drive, State.withPower, State.setOp, State.withOp,
    State.withLink]

/-- The mode controller with the pins sampled as given (R155, R167). -/
def ModeControl.sampled (c : ModeControl) (wide fmt svc pwrwarnn : Bool) : ModeControl :=
  { c with wide := wide, fmt := fmt, svc := svc, powerWarning := !pwrwarnn }

section
variable (s : State) (wide fmt svc pwrwarnn : Bool)

/-- With no cause of reset left the sampling begins the mount (R164, R168). -/
theorem State.sampleAt_begins :
    s.sampleAt wide fmt svc pwrwarnn false false =
      (s.withCtl
        { s.ctl.sampled wide fmt svc pwrwarnn with
          rstnLow := false, internalReset := false, mount := some .start }).startOp .mount .wake := rfl

/-- With a cause of reset left the pins are sampled, and that is all (R164). -/
theorem State.sampleAt_waits (rstnLow internalReset : Bool) (left : rstnLow = true ∨ internalReset = true) :
    s.sampleAt wide fmt svc pwrwarnn rstnLow internalReset =
      s.withCtl { s.ctl.sampled wide fmt svc pwrwarnn with rstnLow := rstnLow, internalReset := internalReset } := by
  rw [State.sampleAt, if_neg (by rcases left with rfl | rfl <;> simp)]
  rfl

theorem exec_resetRelease (low : s.ctl.rstnLow = true) :
    exec (.resetRelease wide fmt svc pwrwarnn) s =
      .next (s.sampleAt wide fmt svc pwrwarnn false s.ctl.internalReset).closeStep := by
  simp [exec, execResetRelease, low]

theorem exec_internalResetEnd (runs : s.ctl.internalReset = true) :
    exec (.internalResetEnd wide fmt svc pwrwarnn) s =
      .next (s.sampleAt wide fmt svc pwrwarnn s.ctl.rstnLow false).closeStep := by
  simp [exec, execInternalResetEnd, runs]

end

/-- Settles O43: each end samples the pins, and the later of the two begins the mount with its wake. -/
theorem resetEndBeginsMount : Obligations.ResetEndBeginsMount := by
  intro wide fmt svc pwrwarnn s closed
  refine ⟨fun low stopped => ?_, fun high runs => ?_, fun low runs => ⟨?_, ?_⟩⟩
  · rw [exec_resetRelease s _ _ _ _ low, stopped, State.sampleAt_begins, State.startOp_wake (closed := by exact closed)]
    rfl
  · rw [exec_internalResetEnd s _ _ _ _ runs, high, State.sampleAt_begins, State.startOp_wake (closed := by exact closed)]
    rfl
  · rw [exec_resetRelease s _ _ _ _ low, State.sampleAt_waits (left := .inr runs)]
    rfl
  · rw [exec_internalResetEnd s _ _ _ _ runs, State.sampleAt_waits (left := .inl low)]
    rfl

/-! ## The entry to FAULT at the end of a link operation -/

/-- The entry to FAULT keeps of the link its power state, and closes its stream; whatever else it held is discarded (R113, R124,
R166). -/
theorem State.enterFault_congr_link (s : State) (k : Link) (power : k.power = s.link.power) (stream : k.stream = s.link.stream) :
    ({ s with link := k } : State).enterFault = s.enterFault := by
  simp only [State.enterFault, State.closeStream_eq, State.failHeldCycle, State.errorTerminate, State.withPort, power, stream]
  cases s.port.cycle with
  | none => rfl
  | some c => cases held : c.cond.held <;> simp [held]

/-! ## The end of a format's erase -/

/-- The end of the erase of a data sector in a format (R180). -/
theorem State.formatEraseEnd_data (s : State) (m : MountRecord) (p : Nat) (fail : Bool) (mount : s.ctl.mount = some m)
    (stage : m.format = some (.eraseData p)) :
    s.formatEraseEnd fail = if fail then s.enterFault else s.formatData m (p + 1) := by
  simp [State.formatEraseEnd, mount, stage]

/-- A data sector up to the last is erased next in a format (R180). -/
theorem State.formatData_erases (s : State) (m : MountRecord) (p : Nat) (hp : p ≤ 263) (awake : s.link.power = .awake) :
    s.formatData m p =
      { s with
        ctl := { s.ctl with mount := some { m with format := some (.eraseData p) } }
        link := { s.link with stream := none, op := some { user := .mount, op := .erase p, stage := .writeEnable } }
        wire := s.wire ++ ((if s.link.stream.isSome then [.closeStream] else []) ++ [.enableWrite, .status]) } := by
  rw [State.formatData, if_pos hp, State.formatOp, State.startOp_write (awake := by exact awake) (write := .inr ⟨p, rfl⟩)]
  rfl

/-- Settles O60: the erase's outcome goes to the format, whose stage names the sector erased. -/
theorem formatErasesDataSectorsInTurn : Obligations.FormatErasesDataSectorsInTurn := by
  intro s m e x p st op erasing user sector running ready mount stage closed awake
  have outcome := exec_eraseEnd s st e .mount p x op erasing running ready
  rw [user, State.eraseOutcome,
    State.formatEraseEnd_data { s with link := { s.link with op := none, erasing := none } } m p _ mount stage] at outcome
  refine ⟨fun good more => ?_, fun failed => ⟨_, ?_, s.enterFault_faulted⟩⟩
  · rw [outcome, good, if_neg Bool.false_ne_true, State.formatData_erases _ m (p + 1) (by omega) (by exact awake)]
    simp [closed]
  · rw [outcome, failed, if_pos rfl]
    exact congrArg (fun t => Host.Outcome.next t.closeStep)
      (s.enterFault_congr_link { s.link with op := none, erasing := none } rfl rfl)

end Sys2Proof.Machine
end

section
namespace Sys2Proof.Machine

/-! ## REPLAY -/

/-- All that a position replayed can do (R173): a blank or torn one is passed over, a REMAP replaces its map entry by a data sector
that neither set holds, a RETIRE finds its sector retired already or adds a data sector that neither set holds, below the cap. -/
theorem replayEntry_cases (w v : WorkTables) (c : PositionClass) (h : replayEntry w c = some v) :
    ((∀ e, c = .valid e → ∃ p, e = .retire p) ∧ v = w) ∨
      (∃ l new old, c = .valid (.remap l new old) ∧ w.map[l]? = some old ∧ isDataSector new = true ∧ new ∉ w.map ∧
        new ∉ w.retired ∧ v = { w with map := w.map.set l new }) ∨
      ∃ p, c = .valid (.retire p) ∧ isDataSector p = true ∧ p ∉ w.map ∧ p ∉ w.retired ∧ w.retired.length < 64 ∧
        v = { w with retired := w.retired ++ [p] } := by
  cases c with
  | blank => exact .inl ⟨nofun, (Option.some.inj h).symm⟩
  | torn => exact .inl ⟨nofun, (Option.some.inj h).symm⟩
  | valid e =>
    cases e with
    | remap l new old =>
      obtain ⟨⟨entry, data, unmapped, unretired, -⟩, ⟨⟩⟩ := Option.ite_none_right_eq_some.mp h
      exact .inr (.inl ⟨l, new, old, rfl, entry, data, unmapped, unretired, rfl⟩)
    | retire p =>
      obtain ⟨⟨data, unmapped⟩, h⟩ := Option.ite_none_right_eq_some.mp h
      split at h
      · exact .inl ⟨by rintro _ ⟨⟩; exact ⟨p, rfl⟩, (Option.some.inj h).symm⟩
      · next unretired =>
        obtain ⟨room, ⟨⟩⟩ := Option.ite_none_right_eq_some.mp h
        exact .inr (.inr ⟨p, rfl, data, unmapped, unretired, room, rfl⟩)
    | head | ckptBegin | ckptMap | ckptRetired | ckptEnd => exact nomatch h

/-- Settles O19: a REMAP's new sector and a RETIRE's sector are data sectors that neither set holds yet. -/
theorem replayKeepsConsistency : Obligations.ReplayKeepsConsistency := by
  intro w v c data once apart retiredOnce cap h
  rcases replayEntry_cases w v c h with
    ⟨noRemap, rfl⟩ | ⟨l, new, old, rfl, entry, isData, unmapped, unretired, rfl⟩ | ⟨p, rfl, isData, unmapped, unretired, room, rfl⟩
  · refine ⟨data, once, rfl, apart, retiredOnce, cap, fun l new old hc => ?_⟩
    obtain ⟨p, hp⟩ := noRemap _ hc
    exact nomatch hp
  · have inMap : ∀ p ∈ w.map.set l new, p ∈ w.map ∨ p = new := fun p => List.mem_or_eq_of_mem_set
    refine ⟨fun p hp => ?_, ?_, List.length_set, fun p hp => ⟨(apart p hp).1, fun mapped => ?_⟩, retiredOnce, cap, ?_⟩
    · rcases inMap p hp with hp | rfl
      exacts [data p hp, isData]
    · exact once.set unmapped
    · rcases inMap p mapped with mapped | rfl
      exacts [(apart p hp).2 mapped, unretired hp]
    · rintro _ _ _ ⟨⟩
      exact ⟨List.getElem?_set_self (List.getElem?_eq_some_iff.mp entry).1, fun k hk => List.getElem?_set_ne hk.symm⟩
  · refine ⟨data, once, rfl, fun q hq => ?_, ?_, ?_, nofun⟩
    · rcases List.mem_append.mp hq with hq | hq
      · exact apart q hq
      · obtain rfl := List.mem_singleton.mp hq
        exact ⟨isData, unmapped⟩
    · simpa [List.nodup_append, retiredOnce] using fun q hq (he : q = p) => unretired (he ▸ hq)
    · simpa using room

end Sys2Proof.Machine
end

section
namespace Sys2Proof.Machine

/-! ## FAULT and the latch, with no mount under way

What leaves the mode controller alone has its frame lemma already; for each other operation one lemma carries the mode and the latch
over it. The mount is no part of this: it alone moves the mode out of a state without a map, and sets the latch afresh (R177). -/

/-- From c to d FAULT and a latch once set are kept, and no mount is under way in d (R165, R166). -/
structure ModeControl.Kept (c d : ModeControl) : Prop where
  noMount : d.mount = none
  fault : c.mode = .fault → d.mode = .fault
  latch : c.degraded = true → d.degraded = true

theorem ModeControl.Kept.refl (c : ModeControl) (noMount : c.mount = none) : c.Kept c :=
  ⟨noMount, id, id⟩

/-- A change of mode as the mode controller has it. -/
theorem State.setMode_ctl (s : State) (m : Mode) : (s.setMode m).ctl = { s.ctl with mode := m } := by
  unfold State.setMode
  split <;> simp

section
variable {c : ModeControl} {s : State}

/-- A mode other than FAULT is free to change. -/
theorem State.setMode_kept (m : Mode) (notFault : s.ctl.mode ≠ .fault) (kept : c.Kept s.ctl) : c.Kept (s.setMode m).ctl := by
  rw [State.setMode_ctl]
  exact ⟨kept.noMount, fun fault => absurd (kept.fault fault) notFault, kept.latch⟩

theorem State.setLatch_kept (kept : c.Kept s.ctl) : c.Kept s.setLatch.ctl := by
  refine ⟨s.setLatch_mount.trans kept.noMount, fun fault => ?_, fun _ => ?_⟩ <;> rw [State.setLatch_eq]
  · by_cases already : s.ctl.degraded = true <;> simp [State.latched, already, kept.fault fault]
  · exact s.latched_degraded

theorem State.drainTest_kept (kept : c.Kept s.ctl) : c.Kept s.drainTest.ctl := by
  unfold State.drainTest
  split
  · next drained => exact State.setMode_kept .halted (by simp [drained.1]) kept
  · exact kept

theorem State.enterFault_kept (kept : c.Kept s.ctl) : c.Kept s.enterFault.ctl := by
  have ctl : s.enterFault.ctl = { s.ctl with mode := .fault, mount := none } := by simp [State.enterFault]
  rw [ctl]
  exact ⟨rfl, fun _ => rfl, kept.latch⟩

theorem State.mountStep_kept (step : MountStep) (kept : c.Kept s.ctl) : c.Kept (s.mountStep step).ctl := by
  rw [State.mountStep, kept.noMount]
  exact ⟨rfl, kept.fault, kept.latch⟩

/-! ### The journal's requests -/

theorem State.endJob_kept (kept : c.Kept s.ctl) : c.Kept s.endJob.ctl := by
  rw [State.endJob, State.takeJob_ctl]
  exact State.drainTest_kept kept

theorem State.completeRetire_kept (p : Nat) (kept : c.Kept s.ctl) : c.Kept (s.completeRetire p).ctl := by
  simp only [State.completeRetire]
  split
  · exact State.setLatch_kept kept
  · exact kept

theorem State.withdrawUsable_kept (j : Nat) (kept : c.Kept s.ctl) : c.Kept (s.withdrawUsable j).ctl := by
  simp only [State.withdrawUsable]
  split
  · exact State.setLatch_kept kept
  · exact kept

theorem State.requesterFailed_kept (q : JournalRequest) (kept : c.Kept s.ctl) : c.Kept (s.requesterFailed q).ctl := by
  simp only [State.requesterFailed]
  split
  case h_5 =>
    split
    · exact State.endJob_kept kept
    · simpa using kept
  all_goals simpa using kept

theorem State.failRequest_kept (kept : c.Kept s.ctl) : c.Kept s.failRequest.ctl := by
  unfold State.failRequest
  split
  · exact kept
  · exact State.requesterFailed_kept _ kept

theorem State.beginOpening_kept (p : OpenPurpose) (kept : c.Kept s.ctl) : c.Kept (s.beginOpening p).ctl := by
  unfold State.beginOpening
  split
  · split
    · exact State.failRequest_kept (State.setLatch_kept kept)
    · split
      · simpa using kept
      · exact State.failRequest_kept kept
  · exact State.failRequest_kept kept

theorem State.beginRequest_kept (kept : c.Kept s.ctl) : c.Kept s.beginRequest.ctl := by
  have fails := State.failRequest_kept kept
  unfold State.beginRequest
  split
  · exact kept
  · split
    · exact fails
    · exact State.beginOpening_kept _ kept
  · split
    · split
      · simpa using kept
      · split
        · exact fails
        · exact State.beginOpening_kept _ kept
    · exact fails

theorem State.addRequest_kept (q : JournalRequest) (kept : c.Kept s.ctl) : c.Kept (s.addRequest q).ctl := by
  simp only [State.addRequest]
  split
  · exact State.beginRequest_kept kept
  · exact kept

/-! ### The completion of an append -/

theorem State.remapDone_kept (l new old : Nat) (kept : c.Kept s.ctl) : c.Kept (s.remapDone l new old).ctl := by
  simp only [State.remapDone]
  split
  · exact kept
  · split
    · exact State.endJob_kept kept
    · split
      · exact State.addRequest_kept _ kept
      · exact State.endJob_kept (State.setLatch_kept kept)

theorem State.commitRetireDone_kept (kept : c.Kept s.ctl) : c.Kept s.commitRetireDone.ctl := by
  simp only [State.commitRetireDone]
  split
  · exact kept
  · split
    · split
      · simpa using kept
      · rw [State.abandonJob_ctl]
        exact State.setLatch_kept kept
    · simpa using kept
    · exact State.endJob_kept kept
    · exact kept
    · exact kept

theorem State.requesterDone_kept (who : Requester) (e : Payload) (kept : c.Kept s.ctl) : c.Kept (s.requesterDone who e).ctl := by
  cases e with
  | remap => exact State.remapDone_kept _ _ _ kept
  | retire p =>
    cases who with
    | commitEngine =>
      rw [State.requesterDone]
      exact State.commitRetireDone_kept (State.completeRetire_kept p kept)
    | eraseEngine => simpa [State.requesterDone] using State.completeRetire_kept p kept

theorem State.appendComplete_kept (kept : c.Kept s.ctl) : c.Kept s.appendComplete.ctl := by
  simp only [State.appendComplete]
  split
  · exact State.requesterDone_kept _ _ kept
  · exact kept

theorem State.appendFailed_kept (kept : c.Kept s.ctl) : c.Kept s.appendFailed.ctl := by
  have withdrawn := State.withdrawUsable_kept (s.journal.active.getD 8) kept
  simp only [State.appendFailed]
  split
  · exact State.beginOpening_kept _ withdrawn
  · exact State.failRequest_kept withdrawn

/-! ### Openings -/

theorem State.abandonOpening_kept (o : Opening) (leftValid : Bool) (kept : c.Kept s.ctl) :
    c.Kept (s.abandonOpening o leftValid).ctl := by
  unfold State.abandonOpening
  cases o.purpose with
  | entry => exact State.failRequest_kept kept
  | recording => exact State.failRequest_kept kept
  | format => exact State.enterFault_kept kept
  | mount => rw [kept.noMount]; exact kept

theorem State.nextCandidate_kept (o : Opening) (leftValid : Bool) (kept : c.Kept s.ctl) :
    c.Kept (s.nextCandidate o leftValid).ctl := by
  have abandons := State.abandonOpening_kept o leftValid kept
  have tries : ∀ k, c.Kept (s.tryCandidate o.purpose o.number k).ctl := fun k => by simpa using kept
  unfold State.nextCandidate
  split
  · split
    · exact abandons
    · split
      · exact abandons
      · split
        · exact abandons
        · exact tries _
  · split
    · exact State.abandonOpening_kept o leftValid (State.setLatch_kept kept)
    · split
      · exact abandons
      · split
        · exact abandons
        · exact tries _

theorem State.withdrawCandidate_kept (p : OpenPurpose) (j : Nat) (kept : c.Kept s.ctl) : c.Kept (s.withdrawCandidate p j).ctl := by
  simpa [State.withdrawCandidate, kept.noMount] using State.withdrawUsable_kept j kept

theorem State.candidateFailed_kept (o : Opening) (headIssued : Bool) (kept : c.Kept s.ctl) :
    c.Kept (s.candidateFailed o headIssued).ctl := by
  have withdrawn := State.withdrawCandidate_kept o.purpose o.candidate kept
  simp only [State.candidateFailed]
  split
  · simpa using withdrawn
  · exact State.nextCandidate_kept o false withdrawn

/-- With no mount under way a complete opening installs no tables, and so sets no latch afresh (R81, R177). -/
theorem State.completeOpening_kept (o : Opening) (kept : c.Kept s.ctl) : c.Kept (s.completeOpening o).ctl := by
  simp only [State.completeOpening, kept.noMount]
  cases o.purpose <;> simpa using kept

theorem State.positionWritten_kept (o : Opening) (q : Nat) (kept : c.Kept s.ctl) : c.Kept (s.positionWritten o q).ctl := by
  simp only [State.positionWritten]
  generalize (if q = 0 then { o with images := s.openingCheckpoint o } else o) = written
  split
  · simpa using kept
  · exact State.completeOpening_kept written kept

/-! ### The outcomes of the journal's operations -/

theorem State.journalProgramEnd_kept (fail : Bool) (kept : c.Kept s.ctl) : c.Kept (s.journalProgramEnd fail).ctl := by
  unfold State.journalProgramEnd
  split
  · split
    · exact State.appendFailed_kept kept
    · split
      · simpa using kept
      · exact State.appendComplete_kept kept
  · split
    · split
      · exact State.candidateFailed_kept _ true kept
      · split
        · simpa using kept
        · exact State.positionWritten_kept _ _ kept
    · simpa using kept
    all_goals exact kept
  · exact kept

theorem State.journalReadBackEnd_kept (bytes : List Byte) (kept : c.Kept s.ctl) : c.Kept (s.journalReadBackEnd bytes).ctl := by
  unfold State.journalReadBackEnd
  split
  · split
    · exact State.appendComplete_kept kept
    · exact State.appendFailed_kept kept
  · split
    · split
      · exact State.positionWritten_kept _ _ kept
      · exact State.candidateFailed_kept _ true kept
    · exact State.nextCandidate_kept _ _ kept
    all_goals exact kept
  · exact kept

theorem State.journalEraseEnd_kept (fail : Bool) (kept : c.Kept s.ctl) : c.Kept (s.journalEraseEnd fail).ctl := by
  unfold State.journalEraseEnd
  split
  · split
    · split
      · exact State.candidateFailed_kept _ false kept
      · simpa using kept
    · exact kept
  · exact kept

/-! ### The outcomes of the commit engine's operations -/

theorem State.programFrom_kept (j : Job) (k : Nat) (kept : c.Kept s.ctl) : c.Kept (s.programFrom j k).ctl := by
  unfold State.programFrom
  split
  · exact kept
  · exact State.endJob_kept kept

theorem State.copyFrom_kept (j : Job) (k : Nat) (kept : c.Kept s.ctl) : c.Kept (s.copyFrom j k).ctl := by
  unfold State.copyFrom
  split
  · exact kept
  · exact State.addRequest_kept _ kept

theorem State.pageDone_kept (j : Job) (kept : c.Kept s.ctl) : c.Kept (s.pageDone j).ctl := by
  unfold State.pageDone
  cases j.kind with
  | inPlace => exact State.programFrom_kept j _ kept
  | relocate => exact State.copyFrom_kept j _ kept
  | undecided => exact kept

theorem State.pageFailed_kept (j : Job) (cause : RetireCause) (kept : c.Kept s.ctl) : c.Kept (s.pageFailed j cause).ctl := by
  unfold State.pageFailed
  split
  · simpa using kept
  · split
    · exact State.addRequest_kept _ kept
    · rw [State.abandonJob_ctl]
      exact State.setLatch_kept kept
  all_goals exact kept

theorem State.pageReadDone_kept (bytes : List Byte) (kept : c.Kept s.ctl) : c.Kept (s.pageReadDone bytes).ctl := by
  simp only [State.pageReadDone]
  split
  · exact kept
  · split
    · split
      · split
        · exact kept
        · exact State.programFrom_kept _ _ kept
      · simpa using kept
    · split
      · exact State.programFrom_kept _ _ kept
      · exact kept
    · split
      · exact State.copyFrom_kept _ _ kept
      · exact kept
    all_goals exact kept

theorem State.commitProgramEnd_kept (fail : Bool) (kept : c.Kept s.ctl) : c.Kept (s.commitProgramEnd fail).ctl := by
  unfold State.commitProgramEnd
  split
  · exact kept
  · split
    · exact State.pageFailed_kept _ _ kept
    · split
      · exact kept
      · exact State.pageDone_kept _ kept

theorem State.commitReadBackEnd_kept (bytes : List Byte) (kept : c.Kept s.ctl) : c.Kept (s.commitReadBackEnd bytes).ctl := by
  unfold State.commitReadBackEnd
  split
  · exact kept
  · split
    · exact State.pageDone_kept _ kept
    · exact State.pageFailed_kept _ _ kept

theorem State.commitEraseEnd_kept (p : Nat) (fail : Bool) (kept : c.Kept s.ctl) : c.Kept (s.commitEraseEnd p fail).ctl := by
  unfold State.commitEraseEnd
  split
  · exact kept
  · split
    · split
      · exact State.addRequest_kept _ kept
      · rw [State.requestTarget_ctl]
        exact State.setLatch_kept kept
    · simpa using kept

/-! ### The outcomes of the erase engine's operations -/

theorem State.openingFinds_kept (j : Nat) (fail : Bool) (kept : c.Kept s.ctl) : c.Kept (s.openingFinds j fail).ctl := by
  simp only [State.openingFinds]
  split
  · split
    · split
      · exact State.nextCandidate_kept _ false kept
      · simpa using kept
    · exact kept
  · exact kept

theorem State.journalSectorErased_kept (j : Nat) (fail : Bool) (kept : c.Kept s.ctl) :
    c.Kept (s.journalSectorErased j fail).ctl := by
  have withdrawn := State.withdrawUsable_kept j kept
  simp only [State.journalSectorErased]
  split
  · apply State.openingFinds_kept
    split
    · exact State.addRequest_kept _ withdrawn
    · simpa using withdrawn
  · apply State.openingFinds_kept
    simpa using kept

theorem State.spareEraseEnd_kept (p : Nat) (fail : Bool) (kept : c.Kept s.ctl) : c.Kept (s.spareEraseEnd p fail).ctl := by
  unfold State.spareEraseEnd
  split
  · split
    · exact State.addRequest_kept _ kept
    · rw [State.endTurn_ctl]
      exact State.setLatch_kept kept
  · simpa using kept

theorem State.eraserEraseEnd_kept (fail : Bool) (kept : c.Kept s.ctl) : c.Kept (s.eraserEraseEnd fail).ctl := by
  unfold State.eraserEraseEnd
  cases s.pool.eraser with
  | erasingJournal j => exact State.journalSectorErased_kept j fail kept
  | erasingSpare p => exact State.spareEraseEnd_kept p fail kept
  | idle | requesting | retiring | recording => exact kept

/-! ### The outcomes handed on: a format has none without a mount under way -/

theorem State.programOutcome_kept (user : LinkUser) (fail : Bool) (kept : c.Kept s.ctl) :
    c.Kept (s.programOutcome user fail).ctl := by
  cases user with
  | commitEngine => exact State.commitProgramEnd_kept fail kept
  | journal => exact State.journalProgramEnd_kept fail kept
  | mount => simpa [State.programOutcome, State.formatProgramEnd, kept.noMount] using kept
  | eraseEngine | readService => exact kept

theorem State.readBackOutcome_kept (user : LinkUser) (bytes : List Byte) (kept : c.Kept s.ctl) :
    c.Kept (s.readBackOutcome user bytes).ctl := by
  cases user with
  | commitEngine => exact State.commitReadBackEnd_kept bytes kept
  | journal => exact State.journalReadBackEnd_kept bytes kept
  | mount => simpa [State.readBackOutcome, State.formatReadBackEnd, kept.noMount] using kept
  | eraseEngine | readService => exact kept

theorem State.eraseOutcome_kept (user : LinkUser) (p : Nat) (fail : Bool) (kept : c.Kept s.ctl) :
    c.Kept (s.eraseOutcome user p fail).ctl := by
  cases user with
  | commitEngine => exact State.commitEraseEnd_kept p fail kept
  | journal => exact State.journalEraseEnd_kept fail kept
  | eraseEngine => exact State.eraserEraseEnd_kept fail kept
  | mount => simpa [State.eraseOutcome, State.formatEraseEnd, kept.noMount] using kept
  | readService => exact kept

theorem State.closeStep_kept (kept : c.Kept s.ctl) : c.Kept s.closeStep.ctl := by
  simpa using kept

end

/-! ### The commands -/

/-- The sampling of the pins moves neither the mode nor the latch (R164, R165). -/
theorem State.sampleAt_mode_degraded (s : State) (wide fmt svc pwrwarnn rstnLow internalReset : Bool) :
    (s.sampleAt wide fmt svc pwrwarnn rstnLow internalReset).ctl.mode = s.ctl.mode ∧
      (s.sampleAt wide fmt svc pwrwarnn rstnLow internalReset).ctl.degraded = s.ctl.degraded := by
  simp only [State.sampleAt, State.beginMount]
  split <;> simp [State.withMount, State.withCtl]

/-- The level of the power warning is no part of what is kept (R155). -/
theorem ModeControl.Kept.withPowerWarning {c d : ModeControl} (kept : c.Kept d) (level : Bool) :
    c.Kept { d with powerWarning := level } :=
  ⟨kept.noMount, kept.fault, kept.latch⟩

section
variable {s t : State} (noMount : s.ctl.mount = none)
include noMount

theorem exec_powerWarningAssertion_kept (h : exec .powerWarningAssertion s = .next t) : s.ctl.Kept t.ctl := by
  have kept := ModeControl.Kept.refl s.ctl noMount
  have noted : s.ctl.Kept (s.withCtl { s.ctl with powerWarning := true }).ctl := kept.withPowerWarning true
  obtain rfl := Host.Outcome.next.inj h
  split
  · exact kept
  · rw [State.closeStep_ctl]
    split
    · next ready =>
      apply State.drainTest_kept
      rw [State.sealAll_ctl]
      exact State.setMode_kept .drain (ready.trans_ne nofun) noted
    · next readOnly => exact State.setMode_kept .halted (readOnly.trans_ne nofun) noted
    all_goals exact noted

theorem exec_powerWarningDeassertion_kept (h : exec .powerWarningDeassertion s = .next t) : s.ctl.Kept t.ctl := by
  have kept := ModeControl.Kept.refl s.ctl noMount
  have noted : s.ctl.Kept (s.withCtl { s.ctl with powerWarning := false }).ctl := kept.withPowerWarning false
  obtain rfl := Host.Outcome.next.inj h
  split
  · exact kept
  · rw [State.closeStep_ctl]
    split
    · next drain => exact State.setMode_kept _ (drain.trans_ne nofun) noted
    · next halted => exact State.setMode_kept _ (halted.trans_ne nofun) noted
    all_goals exact noted

/-- The commands that bring a status: a program's or an erase's end, the write enable, SUSPEND's, the settle's (R110, R111, R119,
R130). -/
theorem exec_status_kept (i : Instr) (st : Byte)
    (status : i = .writeEnableStatus st ∨ i = .programEnd st ∨ i = .eraseEnd st ∨ i = .suspendStatus st ∨ i = .settleEnd st)
    (h : exec i s = .next t) : s.ctl.Kept t.ctl := by
  have kept := ModeControl.Kept.refl s.ctl noMount
  rcases status with rfl | rfl | rfl | rfl | rfl <;> obtain rfl := Host.Outcome.next.inj h
  · split
    · apply State.closeStep_kept
      split
      · exact kept
      · exact State.enterFault_kept kept
    · apply State.closeStep_kept
      split
      · exact kept
      · exact State.enterFault_kept kept
    · exact kept
  · split
    · split
      · exact kept
      · exact State.closeStep_kept (State.programOutcome_kept _ _ kept)
    · exact kept
  · split
    · split
      · exact State.closeStep_kept (State.eraseOutcome_kept _ _ _ kept)
      · exact kept
    · exact kept
  · split
    · split
      · split
        · exact kept
        · split
          · simpa using kept
          · exact State.closeStep_kept (State.eraseOutcome_kept _ _ _ kept)
      all_goals exact kept
    · exact kept
  · split
    · split
      · exact kept
      · split
        · simpa using kept
        · simpa using State.mountStep_kept (s := s.withOp none) .identify kept
    · exact kept

/-- Every command but those of reset keeps FAULT and the latch while no mount is under way (R165, R166). -/
theorem exec_keeps_fault_latch (i : Instr) (notAssert : i ≠ .rstnAssert) (notPowerOn : i ≠ .powerOn)
    (h : exec i s = .next t) :
    (s.ctl.mode = .fault → t.ctl.mode = .fault) ∧ (s.ctl.degraded = true → t.ctl.degraded = true) := by
  have kept := ModeControl.Kept.refl s.ctl noMount
  have of_kept : s.ctl.Kept t.ctl →
      (s.ctl.mode = .fault → t.ctl.mode = .fault) ∧ (s.ctl.degraded = true → t.ctl.degraded = true) :=
    fun k => ⟨k.fault, k.latch⟩
  cases i
  case rstnAssert => exact absurd rfl notAssert
  case powerOn => exact absurd rfl notPowerOn
  case powerWarningAssertion => exact of_kept (exec_powerWarningAssertion_kept noMount h)
  case powerWarningDeassertion => exact of_kept (exec_powerWarningDeassertion_kept noMount h)
  case writeEnableStatus st => exact of_kept (exec_status_kept noMount _ st (by simp) h)
  case programEnd st => exact of_kept (exec_status_kept noMount _ st (by simp) h)
  case eraseEnd st => exact of_kept (exec_status_kept noMount _ st (by simp) h)
  case suspendStatus st => exact of_kept (exec_status_kept noMount _ st (by simp) h)
  case settleEnd st => exact of_kept (exec_status_kept noMount _ st (by simp) h)
  all_goals obtain rfl := Host.Outcome.next.inj h
  case resetRelease =>
    split
    · simp [State.sampleAt_mode_degraded]
    · exact ⟨id, id⟩
  case internalResetEnd =>
    split
    · simp [State.sampleAt_mode_degraded]
    · exact ⟨id, id⟩
  all_goals apply of_kept
  case drainFinished => exact State.closeStep_kept (State.drainTest_kept kept)
  case suspendLatencyExpiry => split; exacts [State.closeStep_kept (State.enterFault_kept kept), kept]
  case busyLimitExpiry => split; exacts [State.closeStep_kept (State.enterFault_kept kept), kept]
  case journalNextRequest => split; exacts [State.closeStep_kept (State.beginRequest_kept kept), kept]
  case identifyEnd => rw [noMount]; simpa using kept
  case mountReadEnd bytes =>
    repeat' split
    all_goals simpa [State.mountReadDone, noMount] using kept
  case wakeIntervalEnd =>
    split
    · split
      · apply State.closeStep_kept
        split
        · simpa using State.mountStep_kept (s := (s.withPower .awake).withOp none) .settle kept
        · simpa using kept
      · exact kept
    · exact kept
  case pageReadEnd bytes =>
    split
    · split
      · exact State.closeStep_kept (State.pageReadDone_kept _ kept)
      · exact kept
    · exact kept
  case readBackEnd bytes =>
    split
    · split
      · exact State.closeStep_kept (State.readBackOutcome_kept _ _ kept)
      · exact kept
    · exact kept
  case hostReadRunEnd bytes =>
    split
    · split
      · simp only [State.closeStep_ctl, State.tryResume_ctl]
        repeat' split
        all_goals simpa using kept
      · exact kept
    · exact kept
  -- The rest leave the mode controller alone.
  all_goals
    repeat' split
    all_goals simpa using kept

end

/-- Settles O8: in FAULT as with the map in force no mount is under way, and every command but those of reset keeps what is set. -/
theorem faultAndLatchLeftByResetAlone : Obligations.FaultAndLatchLeftByResetAlone := by
  intro i s t law notAssert notPowerOn h
  have noMount : s.ctl.mode.isMount = false → s.ctl.mount = none := fun mode => by
    by_contra under
    simp [law.mount (Option.isSome_iff_ne_none.mpr under)] at mode
  refine ⟨fun fault => ?_, fun inForce latched => ?_⟩
  · exact (exec_keeps_fault_latch (noMount (by rw [fault]; rfl)) i notAssert notPowerOn h).1 fault
  · refine (exec_keeps_fault_latch (noMount ?_) i notAssert notPowerOn h).2 latched
    cases mode : s.ctl.mode <;> simp [mode, Mode.inForce, Mode.isMount] at inForce ⊢

end Sys2Proof.Machine
end

section
namespace Sys2Proof.Machine

/-! ## The head table -/

section
variable (m : MountRecord)

/-- The head table has Jj with a valid head of number n (R168). -/
def MountRecord.HasHead (j n : Nat) : Prop :=
  m.heads[j]? = some (.valid n)

theorem MountRecord.headSequence_eq_some {j n : Nat} : m.headSequence j = some n ↔ m.HasHead j n := by
  unfold MountRecord.headSequence MountRecord.HasHead
  split <;> simp_all

theorem MountRecord.HasHead.lt {m : MountRecord} {j n : Nat} (h : m.HasHead j n) : j < 8 :=
  (Vector.getElem?_eq_some_iff.mp h).1

theorem MountRecord.HasHead.unique {m : MountRecord} {j n l : Nat} (h : m.HasHead j n) (h' : m.HasHead j l) : n = l := by
  simpa [MountRecord.HasHead] using h.symm.trans h'

theorem MountRecord.newestSequence_eq {m : MountRecord} {j n : Nat} (newest : m.newest = some j) (head : m.HasHead j n) :
    m.newestSequence = n := by
  simp [MountRecord.newestSequence, newest, show m.heads[j]? = some (.valid n) from head]

/-- The sectors with a valid head below a bound, J0 first. -/
def MountRecord.headsBelow (bound : Nat) : List Nat :=
  (List.range Config.journalSectors).filter fun j =>
    match m.headSequence j with
    | some n => decide (n < bound)
    | none => false

theorem MountRecord.mem_headsBelow {bound j : Nat} : j ∈ m.headsBelow bound ↔ ∃ n, m.HasHead j n ∧ n < bound := by
  rw [MountRecord.headsBelow, List.mem_filter, List.mem_range]
  constructor
  · rintro ⟨-, below⟩
    split at below
    · next n number => exact ⟨n, m.headSequence_eq_some.mp number, of_decide_eq_true below⟩
    · exact nomatch below
  · rintro ⟨n, head, below⟩
    rw [m.headSequence_eq_some.mpr head]
    exact ⟨head.lt, decide_eq_true below⟩

/-- The sector with the highest valid head below a bound is the first that no other one exceeds (R171, R176). -/
theorem MountRecord.highestBelow_eq (bound : Nat) :
    m.highestBelow bound = (m.headsBelow bound).find? fun j =>
      (m.headsBelow bound).all fun k => (m.headSequence k).getD 0 ≤ (m.headSequence j).getD 0 := rfl

/-- The highest valid head below a bound, no other one having its number (R171, R176). -/
theorem MountRecord.highestBelow_eq_some (bound j n : Nat) (head : m.HasHead j n) (below : n < bound)
    (highest : ∀ i l, m.HasHead i l → l < bound → l < n ∨ i = j) : m.highestBelow bound = some j := by
  have mem : j ∈ m.headsBelow bound := m.mem_headsBelow.mpr ⟨n, head, below⟩
  have tops : ∀ k ∈ m.headsBelow bound, (m.headSequence k).getD 0 ≤ (m.headSequence j).getD 0 := fun k hk => by
    obtain ⟨l, headK, belowK⟩ := m.mem_headsBelow.mp hk
    rw [m.headSequence_eq_some.mpr headK, m.headSequence_eq_some.mpr head]
    rcases highest k l headK belowK with less | rfl
    · exact less.le
    · exact (headK.unique head).le
  rw [MountRecord.highestBelow_eq]
  cases found : (m.headsBelow bound).find? fun j =>
      (m.headsBelow bound).all fun k => (m.headSequence k).getD 0 ≤ (m.headSequence j).getD 0 with
  | none => exact absurd (by simpa using tops) (List.find?_eq_none.mp found j mem)
  | some k =>
    obtain ⟨l, headK, belowK⟩ := m.mem_headsBelow.mp (List.mem_of_find?_eq_some found)
    have topsJ : ∀ i ∈ m.headsBelow bound, (m.headSequence i).getD 0 ≤ (m.headSequence k).getD 0 := by
      simpa using List.find?_some found
    have top := topsJ j mem
    rw [m.headSequence_eq_some.mpr headK, m.headSequence_eq_some.mpr head] at top
    rcases highest k l headK belowK with less | rfl
    · exact absurd less (Nat.not_lt.mpr top)
    · rfl

/-- No valid head stands below a bound. -/
theorem MountRecord.highestBelow_eq_none (bound : Nat) (absent : ∀ j n, m.HasHead j n → bound ≤ n) :
    m.highestBelow bound = none := by
  have empty : m.headsBelow bound = [] := List.eq_nil_iff_forall_not_mem.mpr fun j hj => by
    obtain ⟨n, head, below⟩ := m.mem_headsBelow.mp hj
    exact absurd below (Nat.not_lt.mpr (absent j n head))
  rw [MountRecord.highestBelow_eq, empty]
  rfl

theorem MountRecord.sequences_eq_nil (absent : ∀ j n, ¬m.HasHead j n) : m.sequences = [] := by
  rw [MountRecord.sequences, List.filterMap_eq_nil_iff]
  exact fun j _ => Option.eq_none_iff_forall_ne_some.mpr fun n h => absent j n (m.headSequence_eq_some.mp h)

theorem MountRecord.sequences_ne_nil (j n : Nat) (head : m.HasHead j n) : m.sequences ≠ [] :=
  List.ne_nil_of_mem (List.mem_filterMap.mpr ⟨j, List.mem_range.mpr head.lt, m.headSequence_eq_some.mpr head⟩)

/-- No two valid heads have one number (R170). -/
theorem MountRecord.sequences_nodup_iff :
    m.sequences.Nodup ↔ ∀ i j n, m.HasHead i n → m.HasHead j n → i = j := by
  refine ⟨fun once i j n headI headJ => ?_, fun once => ?_⟩
  · by_contra apart
    have symm : Std.Symm fun a b => ∀ x, m.headSequence a = some x → ∀ y, m.headSequence b = some y → x ≠ y :=
      ⟨fun a b differ x hx y hy => (differ y hy x hx).symm⟩
    have differ := (List.pairwise_filterMap.mp once).forall (List.mem_range.mpr headI.lt) (List.mem_range.mpr headJ.lt) apart
    exact differ n (m.headSequence_eq_some.mpr headI) n (m.headSequence_eq_some.mpr headJ) rfl
  · exact List.nodup_range.filterMap fun i j n hi hj =>
      once i j n (m.headSequence_eq_some.mp hi) (m.headSequence_eq_some.mp hj)

theorem MountRecord.heads_all_blank_iff : m.heads.all (· == .blank) = true ↔ ∀ j < 8, m.heads[j]? = some .blank := by
  simp only [Vector.all_eq_true, Vector.getElem?_eq_some_iff, beq_iff_eq]
  exact ⟨fun all j hj => ⟨hj, all j hj⟩, fun all j hj => (all j hj).2⟩

end

/-! ## The operations that the mount's reads lead to -/

/-- The mount's next operation begun in the step that ends a read, with the mount record, the mode and the first command as given
(R168; log entry 10). -/
def State.mountBegun (s : State) (k : MountRecord) (mode : Mode) (o : FlashOp) (stage : OpStage) (events : List LinkEvent) : State :=
  { s with
    ctl := { s.ctl with mode := mode, mount := some k }
    link := { s.link with op := some { user := .mount, op := o, stage := stage } }
    wire := s.wire ++ events }

/-- The entry to FORMATTING (R179): all working usable flags set, and the erase of J0 begun. -/
def State.formattingBegun (s : State) (k : MountRecord) : State :=
  s.mountBegun { k with workUsable := Vector.replicate _ true, format := some (.eraseJournal 0) } .formatting (.erase 0)
    .writeEnable [.enableWrite, .status]

section
variable (s : State) (mounting : s.ctl.mode = .mounting) (awake : s.link.power = .awake) (closed : s.link.stream = none)
include mounting awake closed

/-- A read of the mount begun (R170, R171). -/
theorem State.mountRead_begun (k : MountRecord) (a len : Nat) :
    ((s.withOp none).withMount (some k)).startOp .mount (.mountRead a len) =
      s.mountBegun k .mounting (.mountRead a len) .reading [.read a len] := by
  rw [State.startOp_read (h := by exact awake) (ho := .inr (.inr rfl))]
  simp [State.mountBegun, closed, State.withMount, State.withCtl, State.withOp, State.withLink, ← mounting]

theorem State.readSector_begun (k : MountRecord) (step : MountStep) (j : Nat) :
    (s.withOp none).readSector k step j =
      s.mountBegun { k with step := step, reading := j, image := [] } .mounting (.mountRead (j * 4096) 256) .reading
        [.read (j * 4096) 256] := by
  rw [State.readSector, s.mountRead_begun mounting awake closed]
  simp [physAddr]

theorem State.nextPage_begun (k : MountRecord) :
    (s.withOp none).nextPage k =
      s.mountBegun k .mounting (.mountRead (k.reading * 4096 + k.image.length) 256) .reading
        [.read (k.reading * 4096 + k.image.length) 256] := by
  rw [State.nextPage, s.mountRead_begun mounting awake closed]
  simp [physAddr]

theorem State.scanFrom_begun (k : MountRecord) (scan : k.step = .scan) (j : Nat) :
    (s.withOp none).scanFrom k j =
      s.mountBegun { k with reading := j } .mounting (.mountRead (j * 4096) 16) .reading [.read (j * 4096) 16] := by
  rw [State.scanFrom, s.mountRead_begun mounting awake closed, ← scan]
  simp [positionAddr]

theorem State.enterFormatting_begun (k : MountRecord) : (s.withOp none).enterFormatting k = s.formattingBegun k := by
  have notReady : (s.withOp none).ctl.mode ≠ .ready := mounting.trans_ne nofun
  rw [State.enterFormatting, State.setMode_notReady _ _ notReady, State.startOp_write (awake := by exact awake) (write := .inr ⟨0, rfl⟩)]
  simp [State.formattingBegun, State.mountBegun, closed, State.withMount, State.withCtl, State.withOp, State.withLink]

end

/-! ## SCAN -/

section
variable (s : State) (k : MountRecord)

theorem State.noUsableState_formats (fmt : s.ctl.fmt = true) : s.noUsableState k = s.enterFormatting k := by
  rw [State.noUsableState, if_pos fmt]

theorem State.noUsableState_faults (fmt : s.ctl.fmt = false) : s.noUsableState k = s.enterFault := by
  rw [State.noUsableState, if_neg (by simp [fmt])]

/-- The head table whole with blank heads alone (R170). -/
theorem State.scanDecide_blank (blank : ∀ j < 8, k.heads[j]? = some .blank) : s.scanDecide k = s.enterFormatting k := by
  rw [State.scanDecide, if_pos (k.heads_all_blank_iff.mpr blank)]

/-- The head table whole with no valid head, or with two of one number (R170). -/
theorem State.scanDecide_unusable (written : ∃ j < 8, k.heads[j]? ≠ some .blank) (unusable : k.sequences = [] ∨ ¬k.sequences.Nodup) :
    s.scanDecide k = s.noUsableState k := by
  rw [State.scanDecide, if_neg (by simpa [k.heads_all_blank_iff] using written), if_pos unusable]

/-- The head table whole with valid heads, each of its own number (R170). -/
theorem State.scanDecide_newest (j n : Nat) (head : k.HasHead j n) (once : k.sequences.Nodup)
    (newest : k.highestBelow 0xFFFFFFFF = some j) :
    s.scanDecide k = s.readSector { k with newest := some j } .load j := by
  have written : ¬k.heads.all (· == .blank) = true := fun blank => by
    have := k.heads_all_blank_iff.mp blank j head.lt
    simp [show k.heads[j]? = some (.valid n) from head] at this
  rw [State.scanDecide, if_neg written, if_neg (by simp [k.sequences_ne_nil j n head, once]), newest]

end

/-! ## LOAD and REPLAY -/

/-- The mount record once the checkpoint of the sector read is loaded (R171, R172). -/
def MountRecord.withCheckpoint (m : MountRecord) (k : Checkpoint) : MountRecord :=
  { m with
    step := .replay, loaded := some m.reading, workMap := k.map, workRetired := k.retired
    workUsable := usableOfByte k.usable, loadedAppend := appendPositionOf m.image }

theorem isDataSector_iff (p : Nat) : isDataSector p = true ↔ 8 ≤ p ∧ p < 512 := by
  simp [isDataSector, Nat.lt_succ_iff]

/-- The consistency of a checkpoint of Jj (R172). -/
theorem Checkpoint.consistent_iff (k : Checkpoint) (j : Nat) :
    k.consistent j = true ↔
      (∀ p ∈ k.map, 8 ≤ p ∧ p < 512) ∧ k.map.Nodup ∧ (∀ p ∈ k.retired, (8 ≤ p ∧ p < 512) ∧ p ∉ k.map) ∧ k.retired.Nodup ∧
        k.count ≤ 64 ∧ k.usable.testBit j = true := by
  simp [Checkpoint.consistent, isDataSector_iff, and_assoc]

section
variable (s : State) (m : MountRecord)

/-- The sector read whole in LOAD: its checkpoint loaded, or the valid head next below taken (R171). -/
theorem State.loadRead_eq (n : Nat) (head : m.HasHead m.reading n) :
    s.loadRead m =
      match checkpointOf m.image n with
      | some k => s.checkpointLoaded m k
      | none =>
        match m.highestBelow n with
        | some j => s.readSector m .load j
        | none => s.noUsableState m := by
  rw [State.loadRead, m.headSequence_eq_some.mpr head]
  rfl

/-- A checkpoint that is inconsistent, or whose incremental region is (R172, R173, R174). -/
theorem State.checkpointLoaded_inconsistent (k : Checkpoint) (inconsistent : k.consistent m.reading = false ∨ replay m.image k = none) :
    s.checkpointLoaded m k = s.noUsableState (m.withCheckpoint k) := by
  by_cases consistent : k.consistent m.reading = true
  · have fails := inconsistent.resolve_left (by simp [consistent])
    simp only [State.checkpointLoaded, consistent, fails, if_true]
    rfl
  · simp only [State.checkpointLoaded, consistent]
    rfl

/-- The newest sector's checkpoint loaded and replayed (R171 to R174, R176). -/
theorem State.checkpointLoaded_newest (k : Checkpoint) (v : WorkTables) (n : Nat) (head : m.HasHead m.reading n)
    (consistent : k.consistent m.reading = true) (replayed : replay m.image k = some v) (newest : m.newest = some m.reading) :
    s.checkpointLoaded m k =
      s.searchPrevious { m.withCheckpoint k with workMap := v.map, workRetired := v.retired } n := by
  have number : ({ m.withCheckpoint k with workMap := v.map, workRetired := v.retired } : MountRecord).newestSequence = n :=
    MountRecord.newestSequence_eq newest head
  simp only [MountRecord.withCheckpoint] at number ⊢
  simp only [State.checkpointLoaded, consistent, replayed, if_true, if_pos newest, number]

end

end Sys2Proof.Machine
end

section
namespace Sys2Proof.Machine

/-! ## RECORD -/

/-- The mode that the first mode of a run comes to with no slot held and no job: a drain has nothing to do (R157, R161). -/
def ModeControl.restMode (c : ModeControl) : Mode :=
  if c.powerWarning then .halted else if c.degraded then .readOnly else .ready

theorem ModeControl.firstMode_ready (c : ModeControl) (unwarned : c.powerWarning = false) (clear : c.degraded = false) :
    c.firstMode = .ready ∧ c.restMode = .ready := by
  simp [ModeControl.firstMode, ModeControl.restMode, unwarned, clear]

/-- With the warning asserted or the latch set no write passes the first mode's check (R137, R161). -/
theorem ModeControl.firstMode_unwritable (c : ModeControl) (unwritable : ¬(c.powerWarning = false ∧ c.degraded = false)) :
    c.firstMode = .halted ∨ c.firstMode = .readOnly ∨ c.firstMode = .drain := by
  cases warned : c.powerWarning <;> cases latched : c.degraded <;> simp [ModeControl.firstMode, warned, latched] at unwritable ⊢

/-- A cycle passes the first mode's check unless the warning is asserted and the latch set (R137, R161). -/
theorem ModeControl.firstMode_readable (c : ModeControl) (readable : c.powerWarning = true → c.degraded = false) :
    c.firstMode = .ready ∨ c.firstMode = .readOnly ∨ c.firstMode = .drain := by
  cases warned : c.powerWarning <;> cases latched : c.degraded <;> simp [ModeControl.firstMode, warned, latched] at readable ⊢

theorem ModeControl.firstMode_unreadable (c : ModeControl) (unreadable : ¬(c.powerWarning = true → c.degraded = false)) :
    c.firstMode = .halted := by
  simp [ModeControl.firstMode, show c.powerWarning = true ∧ c.degraded = true by simpa using unreadable]

section
variable (s : State) (bytes : List Byte)

/-- RECORD's read taken (R178): the values, the first mode, no mount record. -/
def State.recorded : State :=
  { s with
    values := decodeRecord bytes
    ctl := { s.ctl with mount := none, mode := s.ctl.firstMode }
    link := { s.link with op := none } }

/-- The mount ended with no slot held and no job (R161, R178). -/
def State.mountEnded : State :=
  { s with
    values := decodeRecord bytes
    ctl := { s.ctl with mount := none, mode := s.ctl.restMode }
    link := { s.link with op := none } }

variable (free : ∀ i < 16, (s.staging.slot i).state = .free) (noJob : s.engine.job = none)
include free noJob

/-- The drain's test at the end of a mount that leaves the slots FREE (R157; log entry 14). -/
theorem State.recorded_drainTest (p : HostPort) (k : Link) :
    ({ s.recorded bytes with port := p, link := k } : State).drainTest = { s.mountEnded bytes with port := p, link := k } := by
  have drained : ({ s.recorded bytes with port := p, link := k } : State).drained = true := (State.drained_iff _).mpr ⟨free, noJob⟩
  rw [State.drainTest_eq]
  simp only [drained, and_true]
  cases warned : s.ctl.powerWarning <;> cases latched : s.ctl.degraded <;>
    simp [State.recorded, State.mountEnded, ModeControl.firstMode, ModeControl.restMode, warned, latched, State.withCtl]

end

/-! ## Slots all FREE -/

section
variable (g : Staging) (free : ∀ i < 16, (g.slot i).state = .free)
include free

theorem Staging.openSlot_allFree (page : Nat) : g.openSlot page = none := by
  cases found : g.openSlot page with
  | none => rfl
  | some i =>
    have isOpen := (g.openSlot_some page i found).1
    simp [Slot.isOpen, free i (g.lt_of_isOpen i isOpen)] at isOpen

theorem Staging.committingSlot_allFree (page : Nat) : g.committingSlot page = none := by
  cases found : g.committingSlot page with
  | none => rfl
  | some i =>
    have committing := (g.committingSlot_some page i found).1
    simp [free i (g.lt_of_not_free i (by simp [committing]))] at committing

/-- Neither layer of slots supplies a byte (R36). -/
theorem Staging.layeredByte_allFree (page offset : Nat) : g.layeredByte page offset = none := by
  simp [Staging.layeredByte, g.openSlot_allFree free, g.committingSlot_allFree free]

theorem Staging.count_free_allFree : g.count .free = 16 :=
  g.allFree_iff_count.mp ((Staging.allFree_iff g).mpr free)

theorem Staging.count_filling_allFree : g.count .filling = 0 :=
  (g.count_eq_zero .filling).mpr fun i hi => by simp [free i hi]

end

/-- The low-water mark in force is at most 8 (R186, R196). -/
theorem decodeRecord_lowWater_le (b : List Byte) : (decodeRecord b).lowWater ≤ 8 := by
  unfold decodeRecord fieldOr
  split
  · dsimp only
    split <;> omega
  · decide

/-! ## The cycle held for the mount, checked again -/

theorem State.writeAllowed_iff (s : State) (c : Cycle) :
    s.writeAllowed c ↔ s.lockRefuses c = false ∧ s.rangeRefuses c = false := by
  rw [State.writeAllowed, ← s.lockRefuses_iff, ← s.rangeRefuses_iff, Bool.not_eq_true, Bool.not_eq_true]

/-- A write that the record lock and the protected ranges let through is decided against the slots (R143). -/
theorem State.checkWrite_allowed (s : State) (c : Cycle) (allowed : s.writeAllowed c) :
    s.checkWrite c = s.decideWrite (pageWriteOf c.addr c.bytes) := by
  obtain ⟨lock, range⟩ := (s.writeAllowed_iff c).mp allowed
  simp [State.checkWrite, lock, range]

section
variable (s : State) (c : Cycle) (hc : s.port.cycle = some c)
include hc

theorem State.recheckHeld_held (held : c.cond = .heldForMount) : s.recheckHeld = s.applyChecks := by
  simp [State.recheckHeld, hc, held]

/-- A read that names a byte and passes the mode check is presented to the read service (R137, R144). -/
theorem State.applyChecks_read (mode : s.ctl.mode = .ready ∨ s.ctl.mode = .readOnly ∨ s.ctl.mode = .drain)
    (read : c.isRead = true) (named : c.bytes ≠ []) : s.applyChecks = s.presentRead c := by
  rcases mode with mode | mode | mode <;> simp [State.applyChecks, hc, mode, read, named]

/-- A cycle that names no byte answered: a read drives all ones on the lanes of the port's width (R135, R136). -/
theorem State.answer_nothing (noByte : c.bytes = []) :
    s.answer [] =
      { s with
        port :=
          { s.port with
            cycle := some { c with cond := .answered }, hwaitn := true
            hadLow := if c.isRead then some 0xFF else s.port.hadLow
            hadHigh := if c.isRead && s.ctl.wide then some 0xFF else s.port.hadHigh } } := by
  simp [State.answer, HostPort.answer, hc, laneValue_absent _ _ _ (by simp [noByte] : ∀ b ∈ c.bytes, b.lane ≠ _), State.withPort]

end

/-- The run of a read whose bytes no slot supplies (R38). -/
theorem State.presentRead_allFree (s : State) (c : Cycle) (free : ∀ i < 16, (s.staging.slot i).state = .free) (b : CycleByte)
    (more : List CycleByte) (bytes : c.bytes = b :: more) :
    s.presentRead c =
      (s.withPort { s.port with cycle := some { c with cond := .readWaiting, taken := c.bytes.map fun _ => none } }).requestRun
        (c.runFrom (offsetOf b.addr) more.length) := by
  have taken : s.takenBytes c = c.bytes.map fun _ => none :=
    List.map_congr_left fun b _ => s.staging.layeredByte_allFree free _ _
  have missing : missingOffsets c.bytes (c.bytes.map fun _ => none) = offsetOf b.addr :: more.map fun b => offsetOf b.addr := by
    rw [missingOffsets_map, bytes]
    simp
  simp only [State.presentRead, taken, missing, List.length_map]
  rfl

/-! ## The end of the mount -/

section
variable (s : State) (bytes : List Byte)

/-- RECORD's end: a cycle held for the mount checked in the first mode, then the drain's test (R138, R157, R178). -/
theorem State.recordRead_eq : (s.withOp none).recordRead bytes = (s.recorded bytes).recheckHeld.drainTest := rfl

variable (free : ∀ i < 16, (s.staging.slot i).state = .free) (noJob : s.engine.job = none)
include free noJob

/-- With no cycle held for the mount nothing is checked again (R138). -/
theorem State.recordRead_unheld (noneHeld : ∀ c, s.port.cycle = some c → c.cond ≠ .heldForMount) :
    (s.withOp none).recordRead bytes = s.mountEnded bytes := by
  have unchecked : (s.recorded bytes).recheckHeld = s.recorded bytes := by
    cases hc : s.port.cycle with
    | none => simp [State.recheckHeld, State.recorded, hc]
    | some c => simp [State.recheckHeld, State.recorded, hc, noneHeld c hc]
  rw [State.recordRead_eq, unchecked]
  exact s.recorded_drainTest bytes free noJob s.port { s.link with op := none }

variable (c : Cycle) (hc : s.port.cycle = some c) (held : c.cond = .heldForMount)
include hc held

/-- A cycle held for the mount whose checks change the port and the link alone (R138, R157). -/
theorem State.recordRead_checked (p : HostPort) (k : Link)
    (checked : (s.recorded bytes).applyChecks = { s.recorded bytes with port := p, link := k }) :
    (s.withOp none).recordRead bytes = { s.mountEnded bytes with port := p, link := k } := by
  rw [State.recordRead_eq, State.recheckHeld_held (s.recorded bytes) c hc held, checked, s.recorded_drainTest bytes free noJob]

/-- A cycle held for the mount that the first mode, the record lock or a protected range refuses (R137, R139, R140). -/
theorem State.recordRead_refused
    (refused : s.ctl.firstMode = .halted ∨ c.isRead = false ∧ (s.ctl.firstMode = .readOnly ∨ s.ctl.firstMode = .drain) ∨
      c.isRead = false ∧ s.ctl.firstMode = .ready ∧ c.bytes ≠ [] ∧ ¬(s.recorded bytes).writeAllowed c) :
    (s.withOp none).recordRead bytes = { s.mountEnded bytes with port := s.port.refused c s.ctl.wide } := by
  have checked : (s.recorded bytes).applyChecks = (s.recorded bytes).errorTerminate := by
    rcases refused with halted | ⟨write, mode⟩ | ⟨write, ready, named, forbidden⟩
    · exact State.applyChecks_modeRefuses (s.recorded bytes) c hc (.inl halted)
    · exact State.applyChecks_modeRefuses (s.recorded bytes) c hc (.inr (.inr ⟨write, mode⟩))
    · rw [State.applyChecks_write (s.recorded bytes) c hc ready write named]
      refine State.checkWrite_refused _ c ?_
      by_contra passes
      exact forbidden ((State.writeAllowed_iff _ c).mpr (by simpa using passes))
  exact s.recordRead_checked bytes free noJob c hc held _ _ (checked.trans (State.errorTerminate_eq (s.recorded bytes) c hc))

/-- A cycle held for the mount that names no byte and passes the mode check (R135, R137). -/
theorem State.recordRead_noByte (noByte : c.bytes = [])
    (passes : s.ctl.firstMode = .ready ∨ c.isRead = true ∧ (s.ctl.firstMode = .readOnly ∨ s.ctl.firstMode = .drain)) :
    (s.withOp none).recordRead bytes =
      { s.mountEnded bytes with
        port :=
          { s.port with
            cycle := some { c with cond := .answered }, hwaitn := true
            hadLow := if c.isRead then some 0xFF else s.port.hadLow
            hadHigh := if c.isRead && s.ctl.wide then some 0xFF else s.port.hadHigh } } := by
  have answered := State.applyChecks_noByte (s.recorded bytes) c hc noByte passes
  exact s.recordRead_checked bytes free noJob c hc held _ _ (answered.trans (State.answer_nothing (s.recorded bytes) c hc noByte))

/-- A read held for the mount requests a run over its bytes, no slot holding any (R37, R38, R138). -/
theorem State.recordRead_run (b : CycleByte) (more : List CycleByte) (named : c.bytes = b :: more) (read : c.isRead = true)
    (mode : s.ctl.firstMode = .ready ∨ s.ctl.firstMode = .readOnly ∨ s.ctl.firstMode = .drain)
    (noRun : s.link.requests.hostRead = none) :
    (s.withOp none).recordRead bytes =
      { s.mountEnded bytes with
        port := { s.port with cycle := some { c with cond := .readWaiting, taken := c.bytes.map fun _ => none } }
        link :=
          { s.link with
            op := none
            requests := { s.link.requests with hostRead := some (c.runFrom (offsetOf b.addr) more.length) } } } := by
  have presented : (s.recorded bytes).applyChecks = (s.recorded bytes).presentRead c :=
    State.applyChecks_read (s.recorded bytes) c hc mode read (by simp [named])
  rw [State.presentRead_allFree (s.recorded bytes) c free b more named, State.requestRun_stands] at presented
  · exact s.recordRead_checked bytes free noJob c hc held _ _ presented
  · simp [Link.runBusy, State.recorded, State.withPort, noRun]
  · simp [State.guardPassed, State.recorded, State.withPort]

end

/-- A slot just allocated holds the last byte that the write has at an offset, and nothing elsewhere (R22, R23). -/
theorem Staging.byte_allocate (g : Staging) (i : Nat) (w : PageWrite) (hi : i < 16) (o : Nat) (ho : o < 256) :
    ((g.allocate i w).slot i).byte o = ((w.bytes.filter fun b => b.1 == o).getLast?).map (·.2) := by
  have cell := Slot.cell_putAll ((g.slot i).allocated w.page (g.count .filling + 1)) w.bytes o ho
  rw [Slot.cell_allocated _ _ _ o ho, ← g.slot_allocate_self i w hi] at cell
  rw [Slot.byte]
  cases last : (w.bytes.filter fun b => b.1 == o).getLast? <;>
    · rw [last] at cell
      obtain ⟨data, written⟩ := Prod.mk.inj cell
      simp [data, written]

/-- The last byte that the write of a cycle has at an offset is the cycle's last byte there (R21). -/
theorem pageWriteOf_last (a : LogAddr) (l : List CycleByte) (o : Nat) :
    (((pageWriteOf a l).bytes.filter fun b => b.1 == o).getLast?).map (·.2) =
      ((l.filter fun b => b.addr.toNat % 256 == o).getLast?).map (·.data) := by
  simp [pageWriteOf, List.filter_map, List.getLast?_map, offsetOf, Function.comp_def]

/-- A write held for the mount and let through takes slot 0, all slots being FREE and no pressure on them (R23, R24, R138). -/
theorem State.recordRead_write (s : State) (bytes : List Byte) (free : ∀ i < 16, (s.staging.slot i).state = .free) (c : Cycle)
    (hc : s.port.cycle = some c) (held : c.cond = .heldForMount) (ready : s.ctl.firstMode = .ready) (write : c.isRead = false)
    (named : c.bytes ≠ []) (allowed : (s.recorded bytes).writeAllowed c) :
    (s.withOp none).recordRead bytes =
      { s.recorded bytes with
        port := s.port.accepted c
        staging := s.staging.allocate 0 (pageWriteOf c.addr c.bytes)
        timer :=
          { quiet := startCount (decodeRecord bytes).quietMs s.now, hold := startCount (decodeRecord bytes).holdMs s.now } } := by
  have unpressed : (s.recorded bytes).values.lowWater < (s.recorded bytes).staging.count .free := by
    have low := decodeRecord_lowWater_le bytes
    rw [show (s.recorded bytes).staging.count .free = 16 from s.staging.count_free_allFree free]
    exact Nat.lt_of_le_of_lt low (by decide)
  have decided := (s.recorded bytes).decideWrite_allocates_unpressed c (pageWriteOf c.addr c.bytes) hc write 0
    (s.staging.openSlot_allFree free _) (by decide) (free 0 (by decide)) (by simp) unpressed
  have timer : (s.recorded bytes).timerAfterAllocation =
      { quiet := startCount (decodeRecord bytes).quietMs s.now, hold := startCount (decodeRecord bytes).holdMs s.now } := by
    exact if_pos (s.staging.count_filling_allFree free)
  rw [State.recordRead_eq, State.recheckHeld_held (s.recorded bytes) c hc held,
    State.applyChecks_write (s.recorded bytes) c hc ready write named, State.checkWrite_allowed _ c allowed, decided, timer,
    State.drainTest_eq, if_neg]
  · rfl
  · exact fun drain => absurd (ready.symm.trans drain.1) nofun

/-! ## MOUNT_READ_END -/

section
variable (s : State) (m : MountRecord) (bytes : List Byte) (mount : s.ctl.mount = some m) (noFormat : m.format = none)
include mount noFormat

theorem State.mountReadDone_scan (scan : m.step = .scan) : s.mountReadDone bytes = s.scanRead m bytes := by
  simp [State.mountReadDone, mount, noFormat, scan]

theorem State.mountReadDone_load (load : m.step = .load) :
    s.mountReadDone bytes =
      if (m.image ++ bytes).length < 4096 then s.nextPage { m with image := m.image ++ bytes }
      else s.loadRead { m with image := m.image ++ bytes } := by
  simp [State.mountReadDone, mount, noFormat, load]

theorem State.mountReadDone_record (record : m.step = .record) : s.mountReadDone bytes = s.recordRead bytes := by
  simp [State.mountReadDone, mount, noFormat, record]

end

/-- A read of the mount that ends with the bytes it asked for is acted on with no operation on the link (R170). -/
theorem exec_mountReadEnd (s : State) (user : LinkUser) (addr : Nat) (bytes : List Byte)
    (op : s.link.op = some { user := user, op := .mountRead addr bytes.length, stage := .reading }) :
    exec (.mountReadEnd bytes) s = .next ((s.withOp none).mountReadDone bytes).closeStep := by
  simp [exec, execMountReadEnd, op]

/-- INSTALL's search for the previous sector: the highest valid head below, or none (R176). -/
theorem State.searchPrevious_found (s : State) (r : MountRecord) (bound j : Nat) (found : r.highestBelow bound = some j) :
    s.searchPrevious r bound = s.readSector r .install j := by
  rw [State.searchPrevious, found]

theorem State.searchPrevious_none (s : State) (r : MountRecord) (bound : Nat) (absent : r.highestBelow bound = none) :
    s.searchPrevious r bound = s.installNewest r none := by
  rw [State.searchPrevious, absent]

/-- INSTALL of the newest sector with no previous one, and EVALUATE (R176, R177). -/
theorem State.installNewest_newest (s : State) (r : MountRecord) (j n : Nat) (loaded : r.loaded = some j)
    (number : r.newestSequence = n) (noFormat : r.format = none) :
    let t := s.installNewest r none
    t.tables = installedTables r ∧ t.pool.spares = installedSpares r ∧ t.journal.active = some j ∧ t.journal.previous = none ∧
      t.journal.sequence = some n ∧ t.journal.appendPos = some r.loadedAppend ∧ t.ctl.mode = s.ctl.mode ∧
      t.ctl.mount = some { r with step := .record } ∧
      (t.ctl.degraded = true ↔ t.tables.retiredCount = 64 ∨ (List.range 8).countP (fun j => t.tables.usable j) < 3 ∨
        n = 0xFFFFFFFE) := by
  simp [State.installNewest, State.install, loaded, number, ← noFormat, evaluateLatch, Tables.usableCount_flags, or_assoc]

/-- Settles O59: the read ends in one step with what the lemmas on SCAN, LOAD, REPLAY, INSTALL and RECORD say of its bytes. -/
theorem mountEndsInFirstMode : Obligations.MountEndsInFirstMode := by
  refine ⟨?_, ?_⟩
  · intro s m addr bytes op mount noFormat mounting awake closed answers begun reads formats unusable starts valid below
    have ends := exec_mountReadEnd s .mount addr bytes op
    have formatting : ∀ k, (s.withOp none).mountReadDone bytes = (s.withOp none).enterFormatting k → formats k := fun k done => by
      rw [done, s.enterFormatting_begun mounting awake closed] at ends
      exact ends
    have noState : ∀ k, (s.withOp none).mountReadDone bytes = (s.withOp none).noUsableState k → unusable k := fun k done => by
      refine ⟨fun fmt => formatting k (done.trans (State.noUsableState_formats _ k fmt)), fun fmt => ⟨_, ?_, s.enterFault_faulted⟩⟩
      rw [ends, done, State.noUsableState_faults (s.withOp none) k fmt]
      exact congrArg (fun t => Host.Outcome.next t.closeStep) (s.enterFault_congr_link { s.link with op := none } rfl rfl)
    have sector : ∀ k step j, (s.withOp none).mountReadDone bytes = (s.withOp none).readSector k step j → starts k step j :=
      fun k step j done => by
        rw [done, s.readSector_begun mounting awake closed] at ends
        exact ends
    constructor
    · intro scan h
      have scans := (s.withOp none).mountReadDone_scan m bytes mount noFormat scan
      constructor
      · intro more
        rw [scans, State.scanRead, if_pos more, s.scanFrom_begun mounting awake closed h scan] at ends
        exact ends
      · intro last
        have decides : (s.withOp none).mountReadDone bytes = (s.withOp none).scanDecide h := by
          rw [scans, State.scanRead, if_neg (Nat.not_lt.mpr last)]
        refine ⟨fun blank => ?_, fun written absent => ?_, fun i j n apart headI headJ => ?_, fun j once bounded top => ?_⟩
        · exact formatting h (decides.trans (State.scanDecide_blank _ h blank))
        · exact noState h (decides.trans (State.scanDecide_unusable _ h written (.inl (h.sequences_eq_nil absent))))
        · have written : ∃ k < 8, h.heads[k]? ≠ some .blank := ⟨i, MountRecord.HasHead.lt headI, by rw [headI]; nofun⟩
          have twice : ¬h.sequences.Nodup := fun once => apart (h.sequences_nodup_iff.mp once i j n headI headJ)
          exact noState h (decides.trans (State.scanDecide_unusable _ h written (.inr twice)))
        · obtain ⟨n, head, less, highest⟩ := top
          exact sector _ .load j (decides.trans (State.scanDecide_newest _ h j n head (h.sequences_nodup_iff.mpr once)
            (h.highestBelow_eq_some _ j n head less highest)))
    · intro load w
      have loads := (s.withOp none).mountReadDone_load m bytes mount noFormat load
      constructor
      · intro more
        rw [loads, if_pos more, s.nextPage_begun mounting awake closed] at ends
        exact ends
      · intro n whole head
        rw [if_neg (Nat.not_lt.mpr whole), (s.withOp none).loadRead_eq w n head] at loads
        constructor
        · intro incomplete
          rw [incomplete] at loads
          refine ⟨fun j next => ?_, fun last => ?_⟩
          · obtain ⟨l, headJ, less, highest⟩ := next
            rw [w.highestBelow_eq_some n j l headJ less highest] at loads
            exact sector w .load j loads
          · rw [w.highestBelow_eq_none n last] at loads
            exact noState w loads
        · intro k complete l consistent
          have consistent_iff : k.consistent w.reading = true ↔ consistent := k.consistent_iff m.reading
          rw [complete] at loads
          constructor
          · intro fails
            refine noState l (loads.trans (State.checkpointLoaded_inconsistent _ w k ?_))
            rwa [← Bool.not_eq_true, consistent_iff]
          · intro v isConsistent replayed newest r
            have searches : (s.withOp none).mountReadDone bytes = (s.withOp none).searchPrevious r n := loads.trans
              (State.checkpointLoaded_newest _ w k v n head (consistent_iff.mpr isConsistent) replayed newest)
            refine ⟨fun j next => ?_, fun last => ?_⟩
            · obtain ⟨i, headJ, less, highest⟩ := next
              exact sector r .install j (searches.trans (State.searchPrevious_found _ r n j
                (r.highestBelow_eq_some n j i headJ less highest)))
            · rw [searches, State.searchPrevious_none _ r n (r.highestBelow_eq_none n last)] at ends
              obtain ⟨tables, spares, active, previous, sequence, append, mode, record, latch⟩ :=
                (s.withOp none).installNewest_newest r m.reading n rfl (MountRecord.newestSequence_eq newest head) noFormat
              have appendPos : r.loadedAppend = l.loadedAppend := by simp only [r]
              exact ⟨_, ends, tables, spares, active, previous, sequence, append.trans (congrArg some appendPos),
                mode.trans mounting, record, latch⟩
  · intro s m addr bytes op size mount noFormat record noJob free ended readable writable answers
    rw [← size] at op
    have ends := exec_mountReadEnd s .mount addr bytes op
    rw [(s.withOp none).mountReadDone_record m bytes mount noFormat record] at ends
    refine ⟨fun noneHeld => ?_, fun c hc held => ⟨fun refused => ?_, fun noByte passes => ?_, fun b more named read passes idle => ?_,
      fun named write passes allowed => ?_⟩⟩
    · rw [s.recordRead_unheld bytes free noJob noneHeld] at ends
      exact ends
    · rw [s.recordRead_refused bytes free noJob c hc held] at ends
      · exact ends
      · rcases refused with unreadable | ⟨write, unwritable | ⟨named, forbidden⟩⟩
        · exact .inl (s.ctl.firstMode_unreadable unreadable)
        · exact (s.ctl.firstMode_unwritable unwritable).imp id fun mode => .inl ⟨write, mode⟩
        · by_cases passes : writable
          · exact .inr (.inr ⟨write, (s.ctl.firstMode_ready passes.1 passes.2).1, named, forbidden⟩)
          · exact (s.ctl.firstMode_unwritable passes).imp id fun mode => .inl ⟨write, mode⟩
    · rw [s.recordRead_noByte bytes free noJob c hc held noByte] at ends
      · exact ends
      · rcases passes with ⟨read, readable⟩ | ⟨unwarned, clear⟩
        · exact (s.ctl.firstMode_readable readable).imp id fun mode => ⟨read, mode⟩
        · exact .inl (s.ctl.firstMode_ready unwarned clear).1
    · rw [s.recordRead_run bytes free noJob c hc held b more named read (s.ctl.firstMode_readable passes) idle] at ends
      exact ends
    · obtain ⟨ready, rest⟩ := s.ctl.firstMode_ready passes.1 passes.2
      rw [s.recordRead_write bytes free c hc held ready write named allowed] at ends
      obtain ⟨state, page, rank⟩ := s.staging.slot_allocate_frame 0 (pageWriteOf c.addr c.bytes) (by decide)
      have modes : (s.recorded bytes) = ended := congrArg (fun mode => ({ s.recorded bytes with
        ctl := { s.ctl with mount := none, mode := mode } } : State)) (ready.trans rest.symm)
      refine ⟨_, ends, ?_, rfl, rfl, rfl, fun k _ hk => s.staging.slot_allocate_other 0 _ k hk, state, page, ?_, fun o ho => ?_⟩
      · rw [modes]
        rfl
      · rw [rank, s.staging.count_filling_allFree free]
      · exact (s.staging.byte_allocate 0 _ (by decide) o ho).trans (pageWriteOf_last c.addr c.bytes o)

end Sys2Proof.Machine
end

section
namespace Sys2Proof.Machine

/-! ## The configuration record's validity -/

@[simp] theorem byteAt_cons_zero (x : Byte) (b : List Byte) : byteAt (x :: b) 0 = x.toNat := rfl

@[simp] theorem byteAt_cons_succ (x : Byte) (b : List Byte) (k : Nat) : byteAt (x :: b) (k + 1) = byteAt b k := rfl

/-- The signature as four separate bytes: a run of at least four bytes splits into them and the rest (R184). -/
theorem take_four_eq_iff (b : List Byte) (long : 4 ≤ b.length) (w x y z : Byte) :
    b.take 4 = [w, x, y, z] ↔
      byteAt b 0 = w.toNat ∧ byteAt b 1 = x.toNat ∧ byteAt b 2 = y.toNat ∧ byteAt b 3 = z.toNat := by
  match b, long with
  | _ :: _ :: _ :: _ :: _, _ =>
    simp only [List.take_succ_cons, List.take_zero, List.cons.injEq, and_true, byteAt_cons_zero, byteAt_cons_succ,
      BitVec.toNat_inj]

/-- Signature, version and check value (R184). -/
theorem recordValid_iff (b : List Byte) (long : 4 ≤ b.length) :
    recordValid b = true ↔
      byteAt b 0 = 0x44 ∧ byteAt b 1 = 0x4E ∧ byteAt b 2 = 0x43 ∧ byteAt b 3 = 0x31 ∧ byteAt b 4 = 1 ∧
        wordAt b 62 = (crc16 (b.take 62)).toNat := by
  have signature := take_four_eq_iff b long 0x44 0x4E 0x43 0x31
  simp only [recordValid, Bool.and_eq_true, beq_iff_eq, signature, and_assoc]
  rfl

/-! ## The fields of the record -/

theorem decodeRecord_of_invalid (b : List Byte) (invalid : recordValid b = false) : decodeRecord b = Values.default := by
  rw [decodeRecord, invalid]
  rfl

/-- A 0/1 field with default 1: only the value 0 clears it (R186). -/
theorem fieldOr_flag_eq_false_iff (value : Nat) : (fieldOr value 0 1 1 == 1) = false ↔ value = 0 := by
  rw [beq_eq_false_iff_ne, fieldOr]
  split <;> omega

/-- A protected range is present when its flag is 1 and its last sector is not less than its first (R187). -/
theorem mem_rangeOf_iff (b : List Byte) (i first last : Nat) :
    (first, last) ∈ rangeOf b i ↔
      byteAt b (18 + 3 * i) = 1 ∧ byteAt b (19 + 3 * i) = first ∧ byteAt b (20 + 3 * i) = last ∧ first ≤ last := by
  have firstAt : 0x12 + 3 * i + 1 = 19 + 3 * i := by omega
  have lastAt : 0x12 + 3 * i + 2 = 20 + 3 * i := by omega
  simp only [rangeOf, firstAt, lastAt]
  split
  case isTrue present => simp only [List.mem_singleton, Prod.mk.injEq]; omega
  case isFalse absent => simp only [List.not_mem_nil, false_iff]; omega

/-- The ranges in force are those of the four places in which the record describes one (R187). -/
theorem mem_decodeRecord_ranges_iff (b : List Byte) (valid : recordValid b = true) (first last : Nat) :
    (first, last) ∈ (decodeRecord b).ranges ↔
      ∃ i < 4, byteAt b (18 + 3 * i) = 1 ∧ byteAt b (19 + 3 * i) = first ∧ byteAt b (20 + 3 * i) = last ∧ first ≤ last := by
  rw [decodeRecord, if_pos valid]
  simp only [List.mem_flatMap, List.mem_range, mem_rangeOf_iff]

/-- Settles O21: the record's layout (R184), the fields of a valid record read at their offsets (R185 to R188). -/
theorem recordGivesValuesInForce : Obligations.RecordGivesValuesInForce := by
  intro b
  refine ⟨fun size => recordValid_iff b (by omega), decodeRecord_of_invalid b, fun valid => ?_⟩
  have ranges := mem_decodeRecord_ranges_iff b valid
  rw [decodeRecord, if_pos valid] at ranges ⊢
  exact ⟨fieldOr_flag_eq_false_iff _, fieldOr_flag_eq_false_iff _, rfl, rfl, rfl, rfl, rfl, rfl, beq_iff_eq, ranges⟩

end Sys2Proof.Machine
end

section
namespace Sys2Proof.Machine

/-! ## Entries of the incremental region, and heads -/

/-- REMAP as it is read: its logical sector and its two data sectors, whatever its cause (R71, R194). -/
theorem classOf_remapImage (l new old : Nat) (cause : RemapCause) (hl : l < 256) (hnew : new < 512) (hold : old < 512) :
    classOf (payloadImage (.remap l new old cause)) = .valid (.remap l new old) := by
  refine classOf_entryImage 0x3C _ _ (by simp [le16]) (by decide) ?_
  have logical : (BitVec.ofNat 8 l).toNat = l := Nat.mod_eq_of_lt hl
  change some (Entry.remap (BitVec.ofNat 8 l).toNat (wordAt (le16 new ++ []) 0) (wordAt (le16 old ++ []) 0)) = _
  rw [logical, wordAt_le16 new _ (by omega), wordAt_le16 old _ (by omega)]

/-- RETIRE as it is read: its sector, whatever its cause (R71, R194). -/
theorem classOf_retireImage (p : Nat) (cause : RetireCause) (h : p < 512) :
    classOf (payloadImage (.retire p cause)) = .valid (.retire p) := by
  refine classOf_entryImage 0x5E _ _ (by simp [le16]) (by decide) ?_
  change some (Entry.retire (wordAt (le16 p ++ []) 0)) = _
  rw [wordAt_le16 p _ (by omega)]

theorem length_payloadImage (e : Payload) : (payloadImage e).length = 16 := by
  cases e with
  | remap | retire => exact length_entryImage _ (by simp [le16])

/-- HEAD as it is read: its sequence number and its ring position (R72, R194). -/
theorem classOf_headImage (sequence j : Nat) (hs : sequence < 2 ^ 32) (hj : j < 256) :
    classOf (headImage sequence j) = .valid (.head sequence j) := by
  refine classOf_entryImage 0xA5 _ _ (by simp [le32]) (by decide) ?_
  have ring : (BitVec.ofNat 8 j).toNat = j := Nat.mod_eq_of_lt hj
  change some (Entry.head (longAt (le32 sequence ++ []) 0) (BitVec.ofNat 8 j).toNat) = _
  rw [longAt_le32 sequence _ hs, ring]

theorem length_headImage (sequence j : Nat) : (headImage sequence j).length = 16 :=
  length_entryImage _ (by simp [le32])

/-- A head with a sequence number that a head can have is the valid head of the sector it names, and of no other (R72). -/
theorem validHead_headImage (sequence j k : Nat) (pos : 0 < sequence) (below : sequence < 0xFFFFFFFF) (hj : j < 256) :
    validHead k (headImage sequence j) = if j = k then some sequence else none := by
  have number : sequence ≠ 0 ∧ sequence ≠ 0xFFFFFFFF := ⟨by omega, by omega⟩
  simp only [validHead, classOf_headImage sequence j (by omega) hj, number, ne_eq, not_false_eq_true, true_and]

/-- Settles O16: the check value of a written entry is right, so its kind code decides its class, and each field is read where it
was written. -/
theorem entriesReadBackAsWritten : Obligations.EntriesReadBackAsWritten := by
  refine ⟨fun l new old cause hl hnew hold => ⟨length_payloadImage _, classOf_remapImage l new old cause hl hnew hold⟩,
    fun p cause hp => ⟨length_payloadImage _, classOf_retireImage p cause hp⟩, fun sequence j pos below hj => ?_⟩
  have read := fun k => validHead_headImage sequence j k pos below (by omega)
  exact ⟨length_headImage sequence j, by rw [read, if_pos rfl], fun k other => by rw [read, if_neg other.symm]⟩

end Sys2Proof.Machine
end

section
namespace Sys2Proof.Machine

/-! ## Bits on the link -/

/-- A further level read moves the bits before it up by one place and stands lowest (R105). -/
theorem byteOfBits_concat (bits : List Bool) (x : Bool) :
    byteOfBits (bits ++ [x]) = (byteOfBits bits <<< 1) ||| (BitVec.ofBool x).setWidth 8 := by
  rw [byteOfBits, List.foldl_append]
  rfl

/-- The last level read is the lowest bit, the one before it the next (R105). -/
theorem getLsbD_byteOfBits (bits : List Bool) (i : Nat) (hi : i < 8) :
    (byteOfBits bits).getLsbD i = bits.reverse.getD i false := by
  induction bits using List.reverseRecOn generalizing i with
  | nil => simp [byteOfBits]
  | append_singleton bits x ih =>
    rw [byteOfBits_concat, BitVec.getLsbD_or, BitVec.getLsbD_shiftLeft, BitVec.getLsbD_setWidth, List.reverse_append]
    cases i with
    | zero => simp
    | succ i => simp [hi, ih i (by omega)]

/-- The levels of a byte from its most significant bit down (R105). -/
theorem byteBits_eq (b : Byte) : byteBits b =
    [b.getLsbD 7, b.getLsbD 6, b.getLsbD 5, b.getLsbD 4, b.getLsbD 3, b.getLsbD 2, b.getLsbD 1, b.getLsbD 0] := rfl

theorem length_byteBits (b : Byte) : (byteBits b).length = 8 := rfl

theorem getElem?_byteBits (b : Byte) (k : Nat) (hk : k < 8) : (byteBits b)[k]? = some (b.getLsbD (7 - k)) := by
  simp [byteBits, BitVec.getMsbD, hk]

/-- A byte driven and a byte read have one bit order (R105). -/
theorem byteOfBits_byteBits (b : Byte) : byteOfBits (byteBits b) = b := by
  refine BitVec.eq_of_getLsbD_eq fun i hi => ?_
  have place : 7 - (7 - i) = i := by omega
  rw [getLsbD_byteOfBits _ _ hi, List.getD_eq_getElem?_getD, List.getElem?_reverse (by rwa [length_byteBits]), length_byteBits,
    getElem?_byteBits b _ (by omega), Option.getD_some, place]

/-- The levels of a run of bytes: bit by bit those of the first byte, then those of the next (R105). -/
theorem getElem?_flatMap_byteBits (bytes : List Byte) (i k : Nat) (hk : k < 8) :
    (bytes.flatMap byteBits)[i * 8 + k]? = bytes[i]?.map fun b => b.getLsbD (7 - k) := by
  induction bytes generalizing i with
  | nil => simp
  | cons b bytes ih =>
    rw [List.flatMap_cons]
    cases i with
    | zero =>
      rw [Nat.zero_mul, Nat.zero_add, List.getElem?_append_left (by rwa [length_byteBits]), getElem?_byteBits b k hk]
      rfl
    | succ i =>
      rw [List.getElem?_append_right (by rw [length_byteBits]; omega), length_byteBits,
        show (i + 1) * 8 + k - 8 = i * 8 + k by omega, ih i, List.getElem?_cons_succ]

/-! ## The address bytes -/

/-- The 21 bits of a physical address in its three bytes, the top three bits zero (R199). -/
theorem addressBytes_spell (addr : Nat) (h : addr < 2 ^ 21) : ∃ b0 b1 b2 : Byte, addressBytes addr = [b0, b1, b2] ∧
    b0.toNat * 65536 + b1.toNat * 256 + b2.toNat = addr ∧ b0.toNat < 32 := by
  refine ⟨_, _, _, rfl, ?_⟩
  have inside : addr % flashBytes = addr := Nat.mod_eq_of_lt h
  simp only [inside, BitVec.toNat_ofNat]
  omega

/-! ## LSCK and LSELn -/

theorem clocking_iff (k : Link) : k.clocking = true ↔ ∃ o, k.op = some o ∧ o.stage = .reading := by
  simp [Link.clocking]

/-- LSCK runs while bytes are clocked in (R105). -/
theorem lsck_eq_none_iff (s : State) : s.lsck = none ↔ s.link.clocking = true := by
  simp [State.lsck]

/-- LSCK rests low (R105). -/
theorem lsck_eq_low (s : State) (rests : s.lsck ≠ none) : s.lsck = some false :=
  if_neg fun clocks => rests ((lsck_eq_none_iff s).mpr clocks)

/-- LSELn is low while a stream is open and while bytes are clocked in (R105, R122). -/
theorem lseln_eq_false_iff (s : State) : s.lseln = false ↔ s.link.stream ≠ none ∨ s.link.clocking = true := by
  rw [State.lseln, Bool.not_eq_false', Bool.or_eq_true, Option.isSome_iff_ne_none]

/-- Settles O14: the codes are the link's table; the bit order is that of `getElem?_flatMap_byteBits`, the address that of
`addressBytes_spell`, and the two outputs follow `Link.clocking`. -/
theorem linkBytesSpellCommands : Obligations.LinkBytesSpellCommands := by
  refine ⟨fun addr len data => ⟨rfl, rfl, rfl, rfl, rfl, rfl, rfl, rfl, rfl, rfl⟩, addressBytes_spell,
    fun b => ⟨byteBits_eq b, byteOfBits_byteBits b⟩, fun e => ⟨rfl, getElem?_flatMap_byteBits (linkBytes e)⟩, fun s => ?_⟩
  rw [lsck_eq_none_iff, lseln_eq_false_iff, clocking_iff]
  exact ⟨Iff.rfl, lsck_eq_low s, Iff.rfl⟩

end Sys2Proof.Machine
end

section
namespace Sys2Proof.Machine

/-! ## The step, and the state after reset -/

/-- Settles O1: the queue's front is the command that `step` runs. -/
theorem stepRunsFrontCommand : Obligations.StepRunsFrontCommand := by
  intro c rest s queue
  rw [step, queue]
  rfl

theorem Staging.slot_reset (i : Nat) : Staging.reset.slot i = .empty := by
  by_cases h : i < 16 <;> simp [Staging.reset, Staging.slot, h, Config.slotCount]

theorem Slot.byte_empty (o : Nat) : Slot.empty.byte o = none := by
  by_cases h : o < 256 <;> simp [Slot.empty, Slot.byte, h, Config.pageBytes]

theorem Tables.entry_reset (l : Nat) : Tables.reset.entry l = none := by
  by_cases h : l < 256 <;> simp [Tables.reset, Tables.entry, h, Config.logicalSectors]

/-- After reset the first eight records are those of the journal sectors, the others have no state (R9). -/
theorem Tables.record_reset (p : Nat) (h : p < 512) : Tables.reset.record p = if p < 8 then .journalReset else .empty := by
  have cell : Tables.reset.sector[p]? = some (if p < 8 then SectorRecord.journalReset else SectorRecord.empty) := by
    rw [Tables.reset, Vector.getElem?_eq_getElem h, Vector.getElem_append]
    by_cases hp : p < 8 <;> simp [hp]
  rw [Tables.record, cell]
  rfl

/-- Settles O2: the slots, the map entries and the records are alike within their kinds; the rest is read off `State.reset`. -/
theorem resetHoldsSpecValues : Obligations.ResetHoldsSpecValues := by
  have slot : ∀ i, State.reset.staging.slot i = .empty := Staging.slot_reset
  have record : ∀ p < 512, State.reset.tables.record p = if p < 8 then .journalReset else .empty := Tables.record_reset
  refine ⟨rfl, fun i _ => ?_, rfl, rfl, rfl, rfl, rfl, rfl, fun l _ => Tables.entry_reset l, fun p hp => ?_, rfl, rfl, rfl, rfl,
    by decide, rfl, rfl, rfl, rfl, rfl, rfl, rfl, rfl, rfl, rfl, rfl, rfl, rfl, rfl, rfl, rfl, rfl, rfl⟩
  · rw [slot]
    exact ⟨rfl, rfl, rfl, fun o _ => Slot.byte_empty o⟩
  · rw [record p hp]
    split <;> exact ⟨rfl, rfl, rfl⟩

/-! ## The laws at reset -/

/-- The port of no cycle, with no write waiting (R145, R148). -/
theorem State.PortLaw.of_released {s : State} {p : HostPort} (port : s.port = p.release) (waiting : s.staging.waiting = none) :
    s.PortLaw where
  hwaitn := by rw [port]; rfl
  hfailn := by rw [port]; rfl
  driven h := by rw [port] at h; exact h.elim nofun nofun
  wide h := by rw [port] at h; exact nomatch h
  waiting := by rw [port, waiting]; rfl
  ready h := by rw [waiting] at h; exact nomatch h
  heldForMount h := by rw [port] at h; exact nomatch h

/-- The port after reset (R148). -/
theorem State.PortLaw.of_reset {s : State} (port : s.port = .reset) (waiting : s.staging.waiting = none) : s.PortLaw :=
  .of_released (p := .reset) port waiting

/-- In reset the law of reset gives the others (R148, R164). -/
theorem State.ResetLaw.sound {s : State} (law : s.ResetLaw) (inReset : s.inReset = true) : s.Sound where
  reset := law
  mode := by constructor <;> simp [law.mode inReset, law.degraded inReset, law.mount inReset]
  port := .of_reset (law.port inReset) (by rw [law.staging inReset]; rfl)
  link := by
    constructor <;> rw [law.link inReset]
    case asleep => exact fun _ => ⟨rfl, rfl⟩
    case waking => exact iff_of_false nofun fun ⟨_, _, h, _⟩ => nomatch h
    case free => rintro _ _ _ (_ | _) h <;> exact nomatch h
    all_goals exact nofun
  doze := by
    rw [State.DozeLaw, law.link inReset, State.mayDoze, law.mode inReset]
    rfl

/-- Every block at its reset value meets the law of reset, whatever the causes of reset (R148). -/
theorem State.resetBlocks_resetLaw (s : State) (rstnLow internalReset : Bool) : (s.resetBlocks rstnLow internalReset).ResetLaw :=
  ⟨fun _ => rfl, fun _ => rfl, fun _ => rfl, fun _ => rfl, fun _ => rfl, fun _ => rfl, fun _ => rfl, fun _ => rfl, fun _ => rfl,
    fun _ => rfl, fun _ => rfl, fun _ => rfl, fun _ => rfl⟩

/-- With every slot empty, no slot queued and no job the laws of the staging buffer hold (R40, R43). -/
theorem State.StagingLaw.of_reset {s : State} (staging : s.staging = .reset) (job : s.engine.job = none) : s.StagingLaw := by
  have slot : ∀ i, s.staging.slot i = .empty := fun i => by rw [staging, Staging.slot_reset]
  constructor
  case queue => intro i; rw [slot, staging]; simp [Staging.reset, Slot.empty]
  case queueNodup => rw [staging]; exact List.nodup_nil
  all_goals simp [slot, job, Slot.empty, Slot.isOpen]

/-- Settles O3: nothing is under way, no table is held and every slot is empty. -/
theorem lawsHoldAtReset : Obligations.LawsHoldAtReset := by
  have notHeld : ¬State.reset.tablesHeld := by
    rintro (h | ⟨-, m, h, -⟩) <;> exact nomatch h
  have slot : ∀ i, State.reset.staging.slot i = .empty := Staging.slot_reset
  refine ⟨(State.reset.resetBlocks_resetLaw true false).sound rfl, .of_reset rfl rfl, ?_, ?_⟩
  · constructor <;> exact fun held => absurd held notHeld
  · constructor
    case pages => intro i p h; rw [slot] at h; exact nomatch h
    case engine => rintro o ((⟨_, h⟩ | ⟨_, h, _⟩) | h) <;> exact nomatch h
    case engineOnce => rintro o (⟨_, h⟩ | ⟨_, h, _⟩) <;> exact nomatch h
    case engineErase => rintro o (⟨_, h⟩ | ⟨_, h, _⟩) <;> exact nomatch h
    case mountIdle => exact fun _ => ⟨rfl, rfl, rfl⟩
    case oneEach => exact fun _ => Nat.zero_le _
    all_goals nofun

end Sys2Proof.Machine
end

section
namespace Sys2Proof.Machine

/-! ## What the blocks' own changes keep

The blocks change the state by a few basic changes. A property that each basic change keeps is kept by every operation that is made
of them, and so the operations are gone through once for all such properties: the laws of mode and port with those of the link, the
staging law, and what a step may not undo. -/

/-- Job k goes on from job j: the same slots, and none of them is given up by waiting for the RETIRE of the source (R44, R60). -/
def Job.continues (k j : Job) : Prop :=
  k.slots = j.slots ∧ (k.awaited = some .retireSource → j.awaited = some .retireSource)

/-- The take that is due: its slots COMMITTING, the job of them created (R31, R44). -/
def State.taken (s : State) : State :=
  (s.withStaging (s.staging.take s.staging.takeList)).withJob (some (s.newJob s.staging.takeList))

/-- The good end of job j: its slots FREE, and the job given up or replaced (R33). -/
def State.jobFreed (s : State) (j : Job) (k : Option Job) : State :=
  (s.withStaging (s.staging.freeSlots j.slots)).withJob k

/-- P is kept by every basic change that the commit engine, the erase engine and the journal make without the link beginning an
operation. -/
structure KeptByBlocks (P : State → Prop) : Prop where
  tables : ∀ {s : State} (x : Tables), P s → P (s.withTables x)
  pool : ∀ {s : State} (x : SparePool), P s → P (s.withPool x)
  journal : ∀ {s : State} (x : Journal), P s → P (s.withJournal x)
  workPage : ∀ {s : State} (x : List Byte), P s → P (s.withWorkPage x)
  requests : ∀ {s : State} (r : Requests), r.hostRead = s.link.requests.hostRead → P s → P (s.withRequests r)
  job : ∀ {s : State} {j k : Job}, s.engine.job = some j → k.continues j → P s → P (s.withJob (some k))
  taken : ∀ {s : State}, s.takeDue = true → P s → P s.taken
  jobFreed : ∀ {s : State} {j : Job} (k : Option Job), s.engine.job = some j → (∀ x, k = some x → x.slots = []) → P s →
    P (s.jobFreed j k)
  jobDropped : ∀ {s : State} {j : Job}, s.engine.job = some j → j.awaited = some .retireSource → P s → P (s.withJob none)
  abandonJob : ∀ {s : State}, P s → P s.abandonJob
  setLatch : ∀ {s : State}, P s → P s.setLatch
  drainTest : ∀ {s : State}, P s → P s.drainTest

section
variable {P : State → Prop} (kept : KeptByBlocks P) {s : State} (h : P s)
include kept h

theorem KeptByBlocks.lookForWork : P s.lookForWork := by
  unfold State.lookForWork
  split
  · exact kept.requests _ rfl (kept.pool _ h)
  · exact h

theorem KeptByBlocks.endTurn : P s.endTurn :=
  kept.lookForWork (kept.pool _ h)

/-! ### Targets and takes -/

theorem KeptByBlocks.readSource {j k : Job} (hj : s.engine.job = some j) (goesOn : k.continues j) : P (s.readSource k) :=
  kept.requests _ rfl (kept.job hj goesOn h)

theorem KeptByBlocks.requestTarget : P s.requestTarget := by
  unfold State.requestTarget
  split
  · exact h
  · next j hj =>
    split
    · exact kept.abandonJob h
    · split
      · exact kept.readSource (kept.pool _ (kept.tables _ h)) hj ⟨rfl, nofun⟩
      · split
        · exact kept.requests _ rfl (kept.job hj ⟨rfl, nofun⟩ h)
        · exact kept.job hj ⟨rfl, nofun⟩ h

theorem KeptByBlocks.allocatePhase {j k : Job} (hj : s.engine.job = some j) (slots : k.slots = j.slots) :
    P (s.allocatePhase k) :=
  kept.requestTarget (kept.job hj ⟨slots, nofun⟩ h)

omit kept h in
/-- DECIDE is begun for the job that the take has created. -/
theorem State.takeJob_of_due (s : State) (due : s.takeDue = true) :
    s.takeJob = s.taken.beginDecide (s.newJob s.staging.takeList) := by
  rw [State.takeJob, if_pos due]
  rfl

theorem KeptByBlocks.takeJob : P s.takeJob := by
  by_cases due : s.takeDue = true
  · rw [s.takeJob_of_due due, State.beginDecide]
    split
    · exact kept.readSource (kept.taken due h) rfl ⟨rfl, id⟩
    · exact kept.allocatePhase (kept.taken due h) rfl rfl
  · rw [s.takeJob_idle (by simpa using due)]
    exact h

omit h in
theorem KeptByBlocks.endJob (ended : P (s.withJob none)) : P s.endJob :=
  kept.takeJob (kept.drainTest ended)

/-! ### The journal's requests -/

theorem KeptByBlocks.markRetirePending (p : Nat) : P (s.markRetirePending p) :=
  kept.tables _ h

theorem KeptByBlocks.completeRetire (p : Nat) : P (s.completeRetire p) := by
  have completed := kept.pool { s.pool with spares := s.pool.spares.filter (· != p) }
    (kept.tables ((s.tables.setState p .retired none).setPending p false) h)
  simp only [State.completeRetire]
  split
  · exact kept.setLatch completed
  · exact completed

theorem KeptByBlocks.requesterFailed (q : JournalRequest) : P (s.requesterFailed q) := by
  simp only [State.requesterFailed]
  split
  · exact kept.endTurn h
  · exact kept.endTurn (kept.tables _ h)
  · exact kept.endTurn h
  · exact kept.abandonJob h
  · split
    · next hj => exact kept.endJob (kept.jobDropped hj rfl (kept.tables _ h))
    · exact kept.abandonJob (kept.tables _ h)

theorem KeptByBlocks.failRequest : P s.failRequest := by
  unfold State.failRequest
  split
  · exact kept.journal _ h
  · exact kept.requesterFailed (kept.journal _ h) _

/-- An operation of the journal for no mount or format is asked for at its requester's level. -/
theorem KeptByBlocks.journalOp (o : FlashOp) (opening : ∀ x, s.journal.opening = some x → x.purpose.isMount = false) :
    P (s.journalOp o) := by
  unfold State.journalOp
  split
  · next hx => exact nomatch opening _ hx
  · next hx => exact nomatch opening _ hx
  · split
    · exact h
    · split
      · exact kept.requests _ rfl h
      · exact kept.requests _ rfl h

theorem KeptByBlocks.appendEntry : P s.appendEntry := by
  unfold State.appendEntry
  split
  · exact h
  · exact kept.journalOp (kept.journal _ h) _ nofun

theorem KeptByBlocks.tryCandidate (p : OpenPurpose) (number c : Nat) (notMount : p.isMount = false) :
    P (s.tryCandidate p number c) := by
  simp only [State.tryCandidate]
  split_ifs
  · exact kept.journalOp (kept.journal _ h) _ (by rintro x ⟨⟩; exact notMount)
  · exact kept.journalOp (kept.journal _ h) _ (by rintro x ⟨⟩; exact notMount)

theorem KeptByBlocks.beginOpening (p : OpenPurpose) (notMount : p.isMount = false) : P (s.beginOpening p) := by
  unfold State.beginOpening
  split
  · split
    · exact kept.failRequest (kept.setLatch h)
    · split
      · exact kept.tryCandidate h p _ _ notMount
      · exact kept.failRequest h
  · exact kept.failRequest h

theorem KeptByBlocks.beginRequest : P s.beginRequest := by
  have fails := kept.failRequest h
  unfold State.beginRequest
  split
  · exact h
  · split
    · exact fails
    · exact kept.beginOpening h _ rfl
  · split
    · split
      · exact kept.appendEntry h
      · split
        · exact fails
        · exact kept.beginOpening h _ rfl
    · exact fails

theorem KeptByBlocks.addRequest (q : JournalRequest) : P (s.addRequest q) := by
  simp only [State.addRequest]
  split
  · exact kept.beginRequest (kept.journal _ h)
  · exact kept.journal _ h

theorem KeptByBlocks.withdrawUsable (j : Nat) : P (s.withdrawUsable j) := by
  simp only [State.withdrawUsable]
  split
  · exact kept.setLatch (kept.tables _ h)
  · exact kept.tables _ h

/-! ### The ends of appends -/

omit kept h in
/-- A REMAP completed with no slot to free (R13). -/
theorem State.completeRemap_nil (s : State) (l new old : Nat) :
    s.completeRemap l new old [] =
      (s.withTables (s.tables.remapped l new old)).withPool { s.pool with spares := s.pool.spares ++ [old] } := rfl

/-- The job is left without slots, and its latch's setting leaves it so. -/
theorem KeptByBlocks.remapDone (l new old : Nat) : P (s.remapDone l new old) := by
  simp only [State.remapDone]
  split
  · rw [State.completeRemap_nil]
    exact kept.pool _ (kept.tables _ h)
  · next j hj =>
    have freed : ∀ k : Option Job, (∀ x, k = some x → x.slots = []) → P ((s.completeRemap l new old j.slots).withJob k) :=
      fun k empty => kept.pool (s := (s.jobFreed j k).withTables _) _ (kept.tables _ (kept.jobFreed k hj empty h))
    split
    · exact kept.endJob (freed none nofun)
    · split
      · exact kept.addRequest (kept.tables _ (freed _ (by rintro x ⟨⟩; rfl))) _
      · refine kept.endJob ?_
        rw [State.setLatch_eq, State.latched_withJob]
        have latched := kept.setLatch (freed none nofun)
        rwa [State.setLatch_eq, State.latched_withJob] at latched

theorem KeptByBlocks.commitRetireDone : P s.commitRetireDone := by
  simp only [State.commitRetireDone]
  split
  · exact h
  · next j hj =>
    split
    · split
      · exact kept.allocatePhase h hj rfl
      · exact kept.abandonJob (kept.setLatch (kept.job hj (by exact ⟨rfl, nofun⟩) h))
    · exact kept.allocatePhase h hj rfl
    · next source => exact kept.endJob (kept.jobDropped hj source h)
    · exact h
    · exact h

theorem KeptByBlocks.requesterDone (who : Requester) (e : Payload) : P (s.requesterDone who e) := by
  unfold State.requesterDone
  split
  · exact kept.remapDone h _ _ _
  · split
    · exact kept.commitRetireDone (kept.completeRetire h _)
    · exact kept.endTurn (kept.completeRetire h _)

theorem KeptByBlocks.appendComplete : P s.appendComplete := by
  simp only [State.appendComplete]
  split
  · exact kept.requesterDone (kept.journal _ h) _ _
  · exact kept.journal _ h

theorem KeptByBlocks.appendFailed : P s.appendFailed := by
  have withdrawn := kept.withdrawUsable h (s.journal.active.getD 8)
  simp only [State.appendFailed]
  split
  · exact kept.beginOpening withdrawn _ rfl
  · exact kept.failRequest withdrawn

/-! ### The pages of a job -/

theorem KeptByBlocks.programFrom {j k : Job} (hj : s.engine.job = some j) (goesOn : k.continues j) (n : Nat) :
    P (s.programFrom k n) := by
  unfold State.programFrom
  split
  · exact kept.readSource h hj goesOn
  · rw [goesOn.1]
    exact kept.endJob (kept.jobFreed none hj nofun h)

theorem KeptByBlocks.copyFrom {j : Job} (hj : s.engine.job = some j) (n : Nat) : P (s.copyFrom j n) := by
  unfold State.copyFrom
  split
  · exact kept.readSource h hj ⟨rfl, id⟩
  · exact kept.addRequest (kept.job hj (by exact ⟨rfl, nofun⟩) h) _

theorem KeptByBlocks.pageDone {j : Job} (hj : s.engine.job = some j) : P (s.pageDone j) := by
  unfold State.pageDone
  cases j.kind with
  | inPlace => exact kept.programFrom h hj ⟨rfl, id⟩ _
  | relocate => exact kept.copyFrom h hj _
  | undecided => exact h

theorem KeptByBlocks.pageFailed {j : Job} (hj : s.engine.job = some j) (cause : RetireCause) : P (s.pageFailed j cause) := by
  unfold State.pageFailed
  split
  · exact kept.allocatePhase h hj rfl
  · split
    · exact kept.addRequest (kept.job (by exact hj) (by exact ⟨rfl, nofun⟩) (kept.markRetirePending h _)) _
    · exact kept.abandonJob (kept.setLatch h)
  · exact h
  · exact h

theorem KeptByBlocks.pageReadDone (bytes : List Byte) : P (s.pageReadDone bytes) := by
  have taken : ∀ image, P (s.withWorkPage image) := fun image => kept.workPage image h
  simp only [State.pageReadDone]
  split
  · exact h
  · next j hj =>
    split
    · split
      · split
        · exact kept.readSource h hj ⟨rfl, id⟩
        · exact kept.programFrom h hj (by exact ⟨rfl, id⟩) _
      · exact kept.allocatePhase h hj rfl
    · split
      · exact kept.programFrom (taken _) (by exact hj) ⟨rfl, id⟩ _
      · exact kept.requests _ rfl (taken _)
    · split
      · exact kept.copyFrom (taken _) (by exact hj) _
      · exact kept.requests _ rfl (taken _)
    all_goals exact h

theorem KeptByBlocks.commitProgramEnd (fail : Bool) : P (s.commitProgramEnd fail) := by
  unfold State.commitProgramEnd
  split
  · exact h
  · next j hj =>
    split
    · exact kept.pageFailed h hj _
    · split
      · exact kept.requests _ rfl (kept.job hj ⟨rfl, id⟩ h)
      · exact kept.pageDone h hj

theorem KeptByBlocks.commitReadBackEnd (bytes : List Byte) : P (s.commitReadBackEnd bytes) := by
  unfold State.commitReadBackEnd
  split
  · exact h
  · next j hj =>
    split
    · exact kept.pageDone h hj
    · exact kept.pageFailed h hj _

theorem KeptByBlocks.spareErased (p : Nat) : P (s.spareErased p) := by
  unfold State.spareErased
  split
  · exact kept.tables _ h
  · exact h

theorem KeptByBlocks.commitEraseEnd (p : Nat) (fail : Bool) : P (s.commitEraseEnd p fail) := by
  unfold State.commitEraseEnd
  split
  · exact h
  · next j hj =>
    split
    · split
      · exact kept.addRequest (kept.job (by exact hj) (by exact ⟨rfl, nofun⟩) (kept.markRetirePending h _)) _
      · exact kept.requestTarget (kept.setLatch h)
    · exact kept.requestTarget (kept.spareErased h p)

theorem KeptByBlocks.spareEraseEnd (p : Nat) (fail : Bool) : P (s.spareEraseEnd p fail) := by
  unfold State.spareEraseEnd
  split
  · split
    · exact kept.addRequest (kept.pool _ (kept.tables _ h)) _
    · exact kept.endTurn (kept.setLatch h)
  · exact kept.endTurn (kept.spareErased h p)

end

/-! ## What the ends of link operations keep -/

/-- P is kept by every basic change that the end of a link operation leads to: those of the blocks, a next operation begun, the entry
to FAULT, and with a mount under way those of the mount and format sequences. -/
structure KeptByEnds (P : State → Prop) : Prop extends KeptByBlocks P where
  startOp : ∀ {s : State} (user : LinkUser) (o : FlashOp), o ≠ .wake → P s → P (s.startOp user o)
  enterFault : ∀ {s : State}, P s → P s.enterFault
  mount : ∀ {s : State} (m : MountRecord), s.ctl.mount.isSome = true → P s → P (s.withMount (some m))
  formatting : ∀ {s : State}, s.ctl.mount.isSome = true → P s → P (s.setMode .formatting)
  install : ∀ {s : State} (m : MountRecord) (r : Roles) (formatted openingFailed : Bool), s.ctl.mount.isSome = true → P s →
    P (s.install m r formatted openingFailed)
  recordRead : ∀ {s : State} (bytes : List Byte), s.ctl.mount.isSome = true → P s → P (s.recordRead bytes)

section
variable {P : State → Prop} (kept : KeptByEnds P) {s : State} (h : P s)
include kept h

/-! ### The journal -/

theorem KeptByEnds.journalOp (o : FlashOp) (notWake : o ≠ .wake) : P (s.journalOp o) := by
  unfold State.journalOp
  split
  · exact kept.startOp _ o notWake h
  · exact kept.startOp _ o notWake h
  · split
    · exact h
    · split
      · exact kept.requests _ rfl h
      · exact kept.requests _ rfl h

theorem KeptByEnds.writePosition (o : Opening) (q : Nat) : P (s.writePosition o q) :=
  kept.journalOp (kept.journal _ h) _ nofun

theorem KeptByEnds.tryCandidate (p : OpenPurpose) (number c : Nat) : P (s.tryCandidate p number c) := by
  simp only [State.tryCandidate]
  split_ifs
  · exact kept.journalOp (kept.journal _ h) _ nofun
  · exact kept.writePosition h _ 0

theorem KeptByEnds.abandonOpening (o : Opening) (leftValid : Bool) : P (s.abandonOpening o leftValid) := by
  unfold State.abandonOpening
  split
  · exact kept.failRequest h
  · exact kept.failRequest h
  · exact kept.enterFault h
  · split
    · next hm => exact kept.install _ _ _ _ (by rw [hm]; rfl) h
    · exact h

theorem KeptByEnds.nextCandidate (o : Opening) (leftValid : Bool) : P (s.nextCandidate o leftValid) := by
  have abandons := kept.abandonOpening h o leftValid
  have tries := kept.tryCandidate h o.purpose o.number
  unfold State.nextCandidate
  split
  · split
    · exact abandons
    · split
      · exact abandons
      · split
        · exact abandons
        · exact tries _
  · split
    · exact kept.abandonOpening (kept.setLatch (kept.journal _ h)) o leftValid
    · split
      · exact abandons
      · split
        · exact abandons
        · exact tries _

theorem KeptByEnds.withdrawCandidate (p : OpenPurpose) (j : Nat) : P (s.withdrawCandidate p j) := by
  unfold State.withdrawCandidate
  split
  · next hm => exact kept.mount _ (by rw [hm]; rfl) h
  · exact kept.withdrawUsable h j

theorem KeptByEnds.candidateFailed (o : Opening) (headIssued : Bool) : P (s.candidateFailed o headIssued) := by
  have withdrawn := kept.withdrawCandidate h o.purpose o.candidate
  simp only [State.candidateFailed]
  split
  · exact kept.journalOp (kept.journal _ withdrawn) _ nofun
  · exact kept.nextCandidate withdrawn o false

theorem KeptByEnds.completeOpening (o : Opening) : P (s.completeOpening o) := by
  simp only [State.completeOpening]
  split
  · exact kept.appendEntry (kept.journal _ h)
  · exact kept.endTurn (kept.journal _ (kept.journal _ h))
  · split
    · next hm => exact kept.install _ _ _ _ (by rw [hm]; rfl) h
    · exact h
  · split
    · next hm => exact kept.install _ _ _ _ (by rw [hm]; rfl) h
    · exact h

theorem KeptByEnds.positionWritten (o : Opening) (q : Nat) : P (s.positionWritten o q) := by
  simp only [State.positionWritten]
  generalize (if q = 0 then { o with images := s.openingCheckpoint o } else o) = written
  split
  · exact kept.writePosition h written (q + 1)
  · exact kept.completeOpening h written

theorem KeptByEnds.journalProgramEnd (fail : Bool) : P (s.journalProgramEnd fail) := by
  unfold State.journalProgramEnd
  split
  · split
    · exact kept.appendFailed h
    · split
      · exact kept.journalOp h _ nofun
      · exact kept.appendComplete h
  · split
    · split
      · exact kept.candidateFailed h _ true
      · split
        · exact kept.journalOp (kept.journal _ h) _ nofun
        · exact kept.positionWritten h _ _
    · exact kept.journalOp (kept.journal _ h) _ nofun
    all_goals exact h
  · exact h

theorem KeptByEnds.journalReadBackEnd (bytes : List Byte) : P (s.journalReadBackEnd bytes) := by
  unfold State.journalReadBackEnd
  split
  · split
    · exact kept.appendComplete h
    · exact kept.appendFailed h
  · split
    · split
      · exact kept.positionWritten h _ _
      · exact kept.candidateFailed h _ true
    · exact kept.nextCandidate h _ _
    all_goals exact h
  · exact h

theorem KeptByEnds.journalEraseEnd (fail : Bool) : P (s.journalEraseEnd fail) := by
  unfold State.journalEraseEnd
  split
  · split
    · split
      · exact kept.candidateFailed h _ false
      · exact kept.writePosition (kept.journal _ h) _ 0
    · exact h
  · exact h

/-! ### The erase engine -/

theorem KeptByEnds.openingFinds (j : Nat) (fail : Bool) : P (s.openingFinds j fail) := by
  simp only [State.openingFinds]
  split
  · split
    · have withdrawn := kept.requests (s.link.requests.withoutErase j) rfl h
      split
      · exact kept.nextCandidate withdrawn _ false
      · exact kept.tryCandidate withdrawn _ _ j
    · exact h
  · exact h

theorem KeptByEnds.journalSectorErased (j : Nat) (fail : Bool) : P (s.journalSectorErased j fail) := by
  have withdrawn := kept.withdrawUsable h j
  simp only [State.journalSectorErased]
  split
  · apply kept.openingFinds
    split
    · exact kept.addRequest (kept.pool _ withdrawn) _
    · exact kept.endTurn withdrawn
  · exact kept.openingFinds (kept.endTurn (kept.journal _ h)) j false

theorem KeptByEnds.eraserEraseEnd (fail : Bool) : P (s.eraserEraseEnd fail) := by
  unfold State.eraserEraseEnd
  cases s.pool.eraser with
  | erasingJournal j => exact kept.journalSectorErased h j fail
  | erasingSpare p => exact kept.spareEraseEnd h p fail
  | idle | requesting | retiring | recording => exact h

end

/-! ### Mount and format -/

section
variable {P : State → Prop} (kept : KeptByEnds P) {s : State} (h : P s) (under : s.ctl.mount.isSome = true)
include kept h under

/-- The mount record moved and an operation of the mount begun. -/
theorem KeptByEnds.mountOp (m : MountRecord) (o : FlashOp) (notWake : o ≠ .wake) :
    P ((s.withMount (some m)).startOp .mount o) :=
  kept.startOp _ o notWake (kept.mount m under h)

theorem KeptByEnds.enterFormatting (m : MountRecord) : P (s.enterFormatting m) :=
  kept.mountOp (kept.formatting under h) (by rw [State.setMode_ctl]; exact under) _ _ nofun

theorem KeptByEnds.noUsableState (m : MountRecord) : P (s.noUsableState m) := by
  unfold State.noUsableState
  split
  · exact kept.enterFormatting h under m
  · exact kept.enterFault h

theorem KeptByEnds.beginMountOpening (m : MountRecord) : P (s.beginMountOpening m) := by
  have opening := kept.mount { m with step := .opening } under h
  have unopened : ∀ n leftValid, P ((s.withMount (some { m with step := .opening })).installUnopened n leftValid) :=
    fun _ _ => kept.install _ _ _ _ rfl opening
  simp only [State.beginMountOpening]
  split
  · exact unopened _ _
  · split
    · exact unopened _ _
    · split
      · exact unopened _ _
      · exact kept.tryCandidate opening _ _ _

theorem KeptByEnds.searchPrevious (m : MountRecord) (bound : Nat) : P (s.searchPrevious m bound) := by
  unfold State.searchPrevious
  split
  · exact kept.mountOp h under _ _ nofun
  · exact kept.install _ _ _ _ under h

theorem KeptByEnds.previousRead (m : MountRecord) : P (s.previousRead m) := by
  simp only [State.previousRead]
  split
  · exact kept.install _ _ _ _ under h
  · exact kept.searchPrevious h under _ _

theorem KeptByEnds.checkpointLoaded (m : MountRecord) (k : Checkpoint) : P (s.checkpointLoaded m k) := by
  simp only [State.checkpointLoaded]
  split
  · split
    · exact kept.noUsableState h under _
    · split
      · exact kept.searchPrevious h under _ _
      · exact kept.beginMountOpening h under _
  · exact kept.noUsableState h under _

theorem KeptByEnds.loadRead (m : MountRecord) : P (s.loadRead m) := by
  simp only [State.loadRead]
  split
  · exact kept.checkpointLoaded h under _ _
  · split
    · exact kept.mountOp h under _ _ nofun
    · exact kept.noUsableState h under _

theorem KeptByEnds.scanDecide (m : MountRecord) : P (s.scanDecide m) := by
  unfold State.scanDecide
  split
  · exact kept.enterFormatting h under _
  · split
    · exact kept.noUsableState h under _
    · split
      · exact kept.mountOp h under _ _ nofun
      · exact kept.noUsableState h under _

theorem KeptByEnds.scanRead (m : MountRecord) (bytes : List Byte) : P (s.scanRead m bytes) := by
  simp only [State.scanRead]
  split
  · exact kept.mountOp h under _ _ nofun
  · exact kept.scanDecide h under _

theorem KeptByEnds.beginFormatOpening (m : MountRecord) : P (s.beginFormatOpening m) := by
  simp only [State.beginFormatOpening]
  split
  · exact kept.tryCandidate (kept.mount _ under h) _ _ _
  · exact kept.enterFault h

theorem KeptByEnds.formatData (m : MountRecord) (p : Nat) : P (s.formatData m p) := by
  unfold State.formatData
  split
  · exact kept.mountOp h under _ _ nofun
  · exact kept.beginFormatOpening h under _

theorem KeptByEnds.formatJournal (m : MountRecord) (j : Nat) : P (s.formatJournal m j) := by
  unfold State.formatJournal
  split
  · exact kept.mountOp h under _ _ nofun
  · split
    · exact kept.enterFault h
    · exact kept.formatData h under _ _

theorem KeptByEnds.formatHeadRead (m : MountRecord) (j : Nat) (bytes : List Byte) : P (s.formatHeadRead m j bytes) := by
  unfold State.formatHeadRead
  split
  · exact kept.mountOp h under _ _ nofun
  · exact kept.formatJournal h under _ _

end

section
variable {P : State → Prop} (kept : KeptByEnds P) {s : State} (h : P s)
include kept h

theorem KeptByEnds.formatEraseEnd (fail : Bool) : P (s.formatEraseEnd fail) := by
  unfold State.formatEraseEnd
  split
  · next hm =>
    have under : s.ctl.mount.isSome = true := by rw [hm]; rfl
    split
    · split
      · exact kept.mountOp h under _ _ nofun
      · exact kept.formatJournal h under _ _
    · split
      · exact kept.enterFault h
      · exact kept.formatData h under _ _
    · exact h
  · exact h

theorem KeptByEnds.formatProgramEnd : P s.formatProgramEnd := by
  unfold State.formatProgramEnd
  split
  · next hm =>
    split
    · exact kept.mountOp h (by rw [hm]; rfl) _ _ nofun
    · exact h
  · exact h

theorem KeptByEnds.formatReadBackEnd (bytes : List Byte) : P (s.formatReadBackEnd bytes) := by
  unfold State.formatReadBackEnd
  split
  · next hm =>
    split
    · split
      · exact kept.enterFault h
      · exact kept.formatJournal h (by rw [hm]; rfl) _ _
    · exact h
  · exact h

theorem KeptByEnds.mountReadDone (bytes : List Byte) : P (s.mountReadDone bytes) := by
  simp only [State.mountReadDone]
  split
  · exact h
  · next hm =>
    have under : s.ctl.mount.isSome = true := by rw [hm]; rfl
    split
    · exact kept.formatHeadRead h under _ _ _
    · exact h
    · split
      · exact kept.scanRead h under _ _
      · split
        · exact kept.mountOp h under _ _ nofun
        · exact kept.loadRead h under _
      · split
        · exact kept.mountOp h under _ _ nofun
        · exact kept.previousRead h under _
      · exact kept.recordRead _ under h
      all_goals exact h

/-! ### The outcomes handed to their requesters -/

theorem KeptByEnds.programOutcome (user : LinkUser) (fail : Bool) : P (s.programOutcome user fail) := by
  cases user with
  | commitEngine => exact kept.commitProgramEnd h fail
  | journal => exact kept.journalProgramEnd h fail
  | mount => exact kept.formatProgramEnd h
  | eraseEngine | readService => exact h

theorem KeptByEnds.readBackOutcome (user : LinkUser) (bytes : List Byte) : P (s.readBackOutcome user bytes) := by
  cases user with
  | commitEngine => exact kept.commitReadBackEnd h bytes
  | journal => exact kept.journalReadBackEnd h bytes
  | mount => exact kept.formatReadBackEnd h bytes
  | eraseEngine | readService => exact h

theorem KeptByEnds.eraseOutcome (user : LinkUser) (p : Nat) (fail : Bool) : P (s.eraseOutcome user p fail) := by
  cases user with
  | commitEngine => exact kept.commitEraseEnd h p fail
  | journal => exact kept.journalEraseEnd h fail
  | eraseEngine => exact kept.eraserEraseEnd h fail
  | mount => exact kept.formatEraseEnd h fail
  | readService => exact h

end

end Sys2Proof.Machine
end

section
namespace Sys2Proof.Machine

/-! ## What a command may not undo

Most changes of a step leave the slots, the commit queue and the job alone, and all of them let what has been driven on the link stand
and keep the timebase and the waiting commands. -/

/-- t comes after s with slots, commit queue and job as in s. -/
structure State.Aside (s t : State) : Prop where
  slots : t.staging.slots = s.staging.slots
  queue : t.staging.queue = s.staging.queue
  job : t.engine.job = s.engine.job
  now : t.now = s.now
  pending : t.pending = s.pending
  wire : s.wire <+: t.wire

theorem State.Aside.trans {s t u : State} (h : s.Aside t) (k : t.Aside u) : s.Aside u :=
  ⟨k.slots.trans h.slots, k.queue.trans h.queue, k.job.trans h.job, k.now.trans h.now, k.pending.trans h.pending,
    h.wire.trans k.wire⟩

/-- A change that leaves the staging buffer, the engine and what has been driven as they are. -/
theorem State.Aside.of_eq {s t : State} (staging : t.staging = s.staging) (engine : t.engine = s.engine) (now : t.now = s.now)
    (pending : t.pending = s.pending) (wire : t.wire = s.wire) : s.Aside t :=
  ⟨by rw [staging], by rw [staging], by rw [engine], now, pending, by rw [wire]⟩

/-- Such a change before another. -/
theorem State.Aside.preceded {s t u : State} (after : t.Aside u) (staging : t.staging = s.staging) (engine : t.engine = s.engine)
    (now : t.now = s.now) (pending : t.pending = s.pending) (wire : t.wire = s.wire) : s.Aside u :=
  .trans (.of_eq staging engine now pending wire) after

section
variable (s : State)

theorem State.closeStep_aside : s.Aside s.closeStep :=
  .of_eq (by simp) (by simp) (by simp) (by simp) (by simp)

theorem State.closeStream_wire_prefix : s.wire <+: s.closeStream.wire := by
  simp [State.closeStream_eq]

theorem State.closeStream_drive_prefix (es : List LinkEvent) : s.wire <+: s.closeStream.wire ++ es :=
  s.closeStream_wire_prefix.trans (List.prefix_append _ _)

theorem State.firstCommand_wire_prefix (user : LinkUser) (o : FlashOp) : s.wire <+: (s.firstCommand user o).wire := by
  have closes := s.closeStream_drive_prefix
  cases o with
  | hostRun run addr =>
    simp only [State.firstCommand]
    split
    · simp
    · simpa [State.beginRead] using closes _
  | _ => simpa [State.firstCommand, State.beginRead] using closes _

theorem State.startOp_aside (user : LinkUser) (o : FlashOp) : s.Aside (s.startOp user o) := by
  refine ⟨by simp, by simp, by simp, by simp, by simp, ?_⟩
  unfold State.startOp
  split
  · simpa using s.closeStream_drive_prefix _
  · exact s.firstCommand_wire_prefix user o

theorem State.firstCommand_aside (user : LinkUser) (o : FlashOp) : s.Aside (s.firstCommand user o) :=
  ⟨by simp, by simp, by simp, by simp, by simp, s.firstCommand_wire_prefix user o⟩

theorem State.trySuspend_aside : s.Aside s.trySuspend := by
  refine ⟨by simp, by simp, by simp, by simp, by simp, ?_⟩
  simp only [State.trySuspend, State.suspendErase]
  repeat' split
  all_goals simp

theorem State.tryResume_aside : s.Aside s.tryResume := by
  refine ⟨by simp, by simp, by simp, by simp, by simp, ?_⟩
  unfold State.tryResume
  split
  · split
    · simpa using s.closeStream_drive_prefix _
    · simp
  · simp

theorem State.requestRun_aside (r : Run) : s.Aside (s.requestRun r) := by
  unfold State.requestRun
  split
  · exact .of_eq rfl rfl rfl rfl rfl
  · exact .preceded (State.trySuspend_aside _) rfl rfl rfl rfl rfl

theorem State.powerDown_aside : s.Aside s.powerDown := by
  refine ⟨by simp, by simp, by simp, by simp, by simp, ?_⟩
  simpa [State.powerDown] using s.closeStream_drive_prefix _

theorem State.answer_aside (values : List Byte) : s.Aside (s.answer values) :=
  .of_eq rfl rfl rfl rfl rfl

theorem State.errorTerminate_aside : s.Aside s.errorTerminate :=
  .of_eq rfl rfl rfl rfl rfl

theorem State.failWaiting_aside : s.Aside s.failWaiting := by
  rw [State.failWaiting_eq]
  exact ⟨rfl, rfl, rfl, rfl, rfl, List.prefix_rfl⟩

theorem State.withdrawErase_aside : s.Aside s.withdrawErase :=
  .of_eq (by simp) (by simp) (by simp) (by simp) (by simp)

theorem State.setMode_aside (m : Mode) : s.Aside (s.setMode m) := by
  have changed : s.Aside (s.withCtl { s.ctl with mode := m }) := .of_eq rfl rfl rfl rfl rfl
  simp only [State.setMode]
  split
  · exact changed.trans ((State.failWaiting_aside _).trans (State.withdrawErase_aside _))
  · exact changed

theorem State.setLatch_aside : s.Aside s.setLatch := by
  simp only [State.setLatch]
  split
  · exact .of_eq rfl rfl rfl rfl rfl
  · split
    · exact .preceded (State.setMode_aside _ _) rfl rfl rfl rfl rfl
    · exact .preceded (State.setMode_aside _ _) rfl rfl rfl rfl rfl
    all_goals exact .of_eq rfl rfl rfl rfl rfl

theorem State.drainTest_aside : s.Aside s.drainTest := by
  unfold State.drainTest
  split
  · exact s.setMode_aside _
  · exact .of_eq rfl rfl rfl rfl rfl

theorem State.install_aside (m : MountRecord) (r : Roles) (formatted openingFailed : Bool) :
    s.Aside (s.install m r formatted openingFailed) :=
  .preceded (State.startOp_aside _ _ _) rfl rfl rfl rfl rfl

theorem State.endHeld_aside (cond : CycleCond) : s.Aside (s.endHeld cond) := by
  cases cond
  case writeWaiting => exact ⟨rfl, rfl, rfl, rfl, rfl, List.prefix_rfl⟩
  all_goals exact .of_eq (by simp [State.endHeld]) (by simp) (by simp) (by simp) (by simp)

theorem State.sampleAt_aside (wide fmt svc pwrwarnn rstnLow internalReset : Bool) :
    s.Aside (s.sampleAt wide fmt svc pwrwarnn rstnLow internalReset) := by
  simp only [State.sampleAt]
  split
  · exact .preceded (State.startOp_aside _ _ _) rfl rfl rfl rfl rfl
  · exact .of_eq rfl rfl rfl rfl rfl

theorem State.handOver_aside (fetched : List Byte) : s.Aside (s.handOver fetched) :=
  .of_eq (by simp) (by simp) (by simp) (by simp) (by simp)

end

/-! ## What every command keeps -/

/-- P speaks of nothing but the slots, the queue, the job and what a step may not undo, and is kept by every change of these. -/
structure KeptByCommands (P : State → Prop) : Prop where
  aside : ∀ {s t : State}, P s → s.Aside t → P t
  job : ∀ {s : State} {j k : Job}, s.engine.job = some j → k.continues j → P s → P (s.withJob (some k))
  taken : ∀ {s : State}, s.takeDue = true → P s → P s.taken
  jobFreed : ∀ {s : State} {j : Job} (k : Option Job), s.engine.job = some j → (∀ x, k = some x → x.slots = []) → P s →
    P (s.jobFreed j k)
  jobDropped : ∀ {s : State} {j : Job}, s.engine.job = some j → j.awaited = some .retireSource → P s → P (s.withJob none)
  abandonJob : ∀ {s : State}, P s → P s.abandonJob
  enterFault : ∀ {s : State}, P s → P s.enterFault
  decideWrite : ∀ {s : State} (w : PageWrite), P s → P (s.decideWrite w)
  sealAll : ∀ {s : State}, P s → P s.sealAll
  resetBlocks : ∀ {s : State} (rstnLow internalReset : Bool), P s → P (s.resetBlocks rstnLow internalReset)

section
variable {P : State → Prop} (kept : KeptByCommands P) {s : State} (h : P s)
include kept h

theorem KeptByCommands.presentRead (c : Cycle) : P (s.presentRead c) := by
  simp only [State.presentRead]
  split
  · exact kept.aside h (s.answer_aside _)
  · exact kept.aside h (.preceded (State.requestRun_aside _ _) rfl rfl rfl rfl rfl)

theorem KeptByCommands.checkWrite (c : Cycle) : P (s.checkWrite c) := by
  have refused := kept.aside h s.errorTerminate_aside
  unfold State.checkWrite
  split
  · exact refused
  · split
    · exact refused
    · exact kept.decideWrite _ h

theorem KeptByCommands.applyChecks : P s.applyChecks := by
  have refused := kept.aside h s.errorTerminate_aside
  have answered := kept.aside h (s.answer_aside [])
  unfold State.applyChecks
  split
  · exact h
  · split
    · exact h
    · exact h
    · exact refused
    · exact refused
    · split
      · exact answered
      · split
        · exact kept.presentRead h _
        · exact kept.checkWrite h _
    all_goals
      split
      · exact refused
      · split
        · exact answered
        · exact kept.presentRead h _

theorem KeptByCommands.recheckHeld : P s.recheckHeld := by
  unfold State.recheckHeld
  split
  · split
    · exact kept.applyChecks h
    · exact h
  · exact h

theorem KeptByCommands.recordRead (bytes : List Byte) : P (s.recordRead bytes) := by
  have modeTaken := kept.aside h (t := (s.withValues (decodeRecord bytes)).withCtl
    { s.ctl with mode := s.ctl.firstMode, mount := none }) (.of_eq rfl rfl rfl rfl rfl)
  exact kept.aside (kept.recheckHeld modeTaken) (State.drainTest_aside _)

omit h in
/-- What every change of slots, queue and job keeps, the blocks and the ends of link operations keep. -/
theorem KeptByCommands.toEnds : KeptByEnds P where
  tables _ h := kept.aside h (.of_eq rfl rfl rfl rfl rfl)
  pool _ h := kept.aside h (.of_eq rfl rfl rfl rfl rfl)
  journal _ h := kept.aside h (.of_eq rfl rfl rfl rfl rfl)
  workPage _ h := kept.aside h ⟨rfl, rfl, rfl, rfl, rfl, List.prefix_rfl⟩
  requests _ _ h := kept.aside h (.of_eq rfl rfl rfl rfl rfl)
  job := kept.job
  taken := kept.taken
  jobFreed := kept.jobFreed
  jobDropped := kept.jobDropped
  abandonJob := kept.abandonJob
  setLatch h := kept.aside h (State.setLatch_aside _)
  drainTest h := kept.aside h (State.drainTest_aside _)
  startOp _ _ _ h := kept.aside h (State.startOp_aside _ _ _)
  enterFault := kept.enterFault
  mount _ _ h := kept.aside h (.of_eq rfl rfl rfl rfl rfl)
  formatting _ h := kept.aside h (State.setMode_aside _ _)
  install _ _ _ _ _ h := kept.aside h (State.install_aside _ _ _ _ _)
  recordRead bytes _ h := kept.recordRead h bytes

/-! ### The grant -/

theorem KeptByCommands.grantCommit (user : LinkUser) (o : FlashOp) : P (s.grantCommit user o) := by
  have removed := kept.aside h (t := s.withRequests { s.link.requests with commit := none }) (.of_eq rfl rfl rfl rfl rfl)
  have begun := kept.aside removed (State.startOp_aside _ user o)
  simp only [State.grantCommit]
  split
  · unfold State.grantAllocationErase
    split
    · exact begun
    · exact kept.toEnds.requestTarget removed
  · exact begun

theorem KeptByCommands.grantErase : P s.grantErase := by
  unfold State.grantErase
  split
  · exact kept.aside h (.of_eq rfl rfl rfl rfl rfl)
  · split
    · exact kept.aside h (.preceded (State.startOp_aside _ _ _) rfl rfl rfl rfl rfl)
    · exact kept.aside h (.preceded (State.startOp_aside _ _ _) rfl rfl rfl rfl rfl)
    · exact kept.aside h (.of_eq rfl rfl rfl rfl rfl)

theorem KeptByCommands.beginGranted : P s.beginGranted := by
  have taken := kept.aside h (t := s.withLink { s.link with granted := none }) (.of_eq rfl rfl rfl rfl rfl)
  have begun : ∀ {r : Requests} (user : LinkUser) (o : FlashOp),
      P (((s.withLink { s.link with granted := none }).withRequests r).startOp user o) := fun user o =>
    kept.aside taken (.preceded (State.startOp_aside _ user o) rfl rfl rfl rfl rfl)
  simp only [State.beginGranted]
  split
  · exact h
  · split
    · exact begun _ _
    · exact taken
  · split
    · exact kept.grantCommit taken _ _
    · exact taken
  · split
    · exact begun _ _
    · exact taken
  · exact kept.grantErase (kept.aside taken (.of_eq rfl rfl rfl rfl rfl))

end

/-! ### The commands -/

section
variable {P : State → Prop} (kept : KeptByCommands P)
include kept

theorem KeptByCommands.closeStep {s : State} (h : P s) : P s.closeStep :=
  kept.aside h s.closeStep_aside

omit kept in
/-- A host read run over, with the stream open at an address (R122). -/
def State.runOver (s : State) (next : Nat) : State :=
  s.withLink { s.link with op := none, stream := some next }

/-- A run's end: the stream stays open, the bytes are handed over, a run held back is requested, a suspension can end (R38, R117,
R120). -/
theorem exec_hostReadRunEnd_keeps (bytes : List Byte) (s t : State) (h : P s) (done : exec (.hostReadRunEnd bytes) s = .next t) :
    P t := by
  obtain rfl := Host.Outcome.next.inj done
  split
  · split
    · next run addr _ _ =>
      have ended : P (s.runOver ((addr + run.len) % flashBytes)) := kept.aside h (.of_eq rfl rfl rfl rfl rfl)
      refine kept.closeStep (kept.aside ?_ (State.tryResume_aside _))
      have handed : P (if run.discard then s.runOver ((addr + run.len) % flashBytes)
          else (s.runOver ((addr + run.len) % flashBytes)).handOver bytes) := by
        split
        · exact ended
        · exact kept.aside ended (State.handOver_aside _ _)
      split
      · exact kept.aside handed (.preceded (State.requestRun_aside _ _) rfl rfl rfl rfl rfl)
      · exact handed
    · exact h
  · exact h

/-- The two edges of the power warning (R156, R158, R160). -/
theorem exec_powerWarning_keeps (i : Instr) (edge : i = .powerWarningAssertion ∨ i = .powerWarningDeassertion) (s t : State)
    (h : P s) (done : exec i s = .next t) : P t := by
  have noted : ∀ level, P (s.withCtl { s.ctl with powerWarning := level }) := fun _ => kept.aside h (.of_eq rfl rfl rfl rfl rfl)
  have changed : ∀ level m, P ((s.withCtl { s.ctl with powerWarning := level }).setMode m) := fun level m =>
    kept.aside (noted level) (State.setMode_aside _ m)
  rcases edge with rfl | rfl <;> obtain rfl := Host.Outcome.next.inj done
  · split
    · exact h
    · apply kept.closeStep
      split
      · exact kept.aside (kept.sealAll (changed true .drain)) (State.drainTest_aside _)
      · exact changed true .halted
      all_goals exact noted true
  · split
    · exact h
    · apply kept.closeStep
      split
      · exact changed false _
      · exact changed false _
      all_goals exact noted false

/-- An operation that a command begins or moves on, or a link fault (R110, R128, R130). -/
theorem exec_linkMoved_keeps (i : Instr) (s t : State) (h : P s) (done : exec i s = .next t)
    (moves : i = .wakeIntervalEnd ∨ (∃ st, i = .writeEnableStatus st) ∨ (∃ st, i = .settleEnd st) ∨
      ∃ b0 b1 b2, i = .identifyEnd b0 b1 b2) : P t := by
  have drives : ∀ es o, P ((s.drive es).withOp o) := fun es _ =>
    kept.aside h ⟨rfl, rfl, rfl, rfl, rfl, List.prefix_append s.wire es⟩
  have next : ∀ (u : State) user o, s.Aside u → P ((u.startOp user o).closeStep) := fun u user o same =>
    kept.closeStep (kept.aside h (same.trans (u.startOp_aside user o)))
  have fault := kept.closeStep (kept.enterFault h)
  rcases moves with rfl | ⟨st, rfl⟩ | ⟨st, rfl⟩ | ⟨b0, b1, b2, rfl⟩ <;> obtain rfl := Host.Outcome.next.inj done
  · split
    · split
      · split
        · exact next _ _ _ (.of_eq rfl rfl rfl rfl rfl)
        · exact kept.closeStep (kept.aside h (.preceded (State.firstCommand_aside _ _ _) rfl rfl rfl rfl rfl))
      · exact h
    · exact h
  · split
    · split
      · exact kept.closeStep (drives _ _)
      · exact fault
    · split
      · exact kept.closeStep (kept.aside (drives _ none) (.of_eq rfl rfl rfl rfl rfl))
      · exact fault
    · exact h
  · split
    · split
      · exact h
      · split
        · exact kept.closeStep (drives _ _)
        · exact next _ _ _ (.of_eq rfl rfl rfl rfl rfl)
    · exact h
  · split
    · split
      · exact next _ _ _ (.of_eq rfl rfl rfl rfl rfl)
      · exact fault
    · exact h

/-- Whatever all changes keep, every command keeps. -/
theorem exec_keeps (i : Instr) (s t : State) (h : P s) (done : exec i s = .next t) : P t := by
  have ends := kept.toEnds
  have close : ∀ {u : State}, P u → P u.closeStep := kept.closeStep
  have fault := close (kept.enterFault h)
  have noOp : P (s.withOp none) := kept.aside h (.of_eq rfl rfl rfl rfl rfl)
  have stopped : P (s.withTimer .stopped) := kept.aside h (.of_eq rfl rfl rfl rfl rfl)
  have endErase : ∀ e st, P (s.endErase e st) := fun e st =>
    ends.eraseOutcome (kept.aside (t := (s.withOp none).withErasing none) h (.of_eq rfl rfl rfl rfl rfl)) _ _ _
  cases i
  case hostReadRunEnd bytes => exact exec_hostReadRunEnd_keeps kept bytes s t h done
  case powerWarningAssertion => exact exec_powerWarning_keeps kept _ (.inl rfl) s t h done
  case powerWarningDeassertion => exact exec_powerWarning_keeps kept _ (.inr rfl) s t h done
  case wakeIntervalEnd => exact exec_linkMoved_keeps kept _ s t h done (.inl rfl)
  case writeEnableStatus st => exact exec_linkMoved_keeps kept _ s t h done (.inr (.inl ⟨st, rfl⟩))
  case settleEnd st => exact exec_linkMoved_keeps kept _ s t h done (.inr (.inr (.inl ⟨st, rfl⟩)))
  case identifyEnd b0 b1 b2 => exact exec_linkMoved_keeps kept _ s t h done (.inr (.inr (.inr ⟨b0, b1, b2, rfl⟩)))
  all_goals obtain rfl := Host.Outcome.next.inj done
  case hlatFall => split; exacts [h, kept.aside h (.of_eq rfl rfl rfl rfl rfl)]
  case dataPhaseStart =>
    split
    · exact h
    · exact close (kept.applyChecks (kept.aside h (.of_eq rfl rfl rfl rfl rfl)))
  case dataPhaseEnd =>
    split
    · exact h
    · exact close (kept.aside h (.trans (s.endHeld_aside _) (.of_eq rfl rfl rfl rfl rfl)))
  case readyHoldLimitExpiry =>
    split
    · exact h
    · split
      · exact close (kept.aside h (.trans (s.endHeld_aside _) (State.errorTerminate_aside _)))
      · exact h
  case waitingWriteRedecide =>
    split
    · exact h
    · exact close (kept.decideWrite _ (kept.aside h ⟨rfl, rfl, rfl, rfl, rfl, List.prefix_rfl⟩))
  case rstnAssert =>
    exact kept.resetBlocks _ _ (kept.aside h ⟨by simp, by simp, by simp, by simp, by simp, s.closeStream_wire_prefix⟩)
  case powerOn => exact kept.resetBlocks _ _ h
  case resetRelease => split; exacts [close (kept.aside h (State.sampleAt_aside ..)), h]
  case internalResetEnd => split; exacts [close (kept.aside h (State.sampleAt_aside ..)), h]
  case flushRisingEdge => split; exacts [h, close (kept.sealAll h)]
  case quietCountExpiry => split; exacts [close (kept.sealAll stopped), h]
  case holdCountExpiry => split; exacts [close (kept.sealAll stopped), h]
  case drainFinished => exact close (kept.aside h s.drainTest_aside)
  case haltedPowerDown => split; exacts [close (kept.aside h s.powerDown_aside), h]
  case dozeCountExpiry => split; exacts [close (kept.aside h s.powerDown_aside), h]
  case progressGuardPasses => exact close (kept.aside h s.trySuspend_aside)
  case suspendLatencyExpiry => split; exacts [fault, h]
  case busyLimitExpiry => split; exacts [fault, h]
  case journalNextRequest => split; exacts [close (ends.beginRequest h), h]
  case commitTake => split; exacts [close (ends.takeJob h), h]
  case eraseEngineRequest => split; exacts [close (ends.lookForWork h), h]
  case linkGrant =>
    split
    · exact close (kept.beginGranted (kept.aside h (.of_eq rfl rfl rfl rfl rfl)))
    · exact h
  case pageReadEnd bytes =>
    split
    · split; exacts [close (ends.pageReadDone noOp bytes), h]
    · exact h
  case programEnd st =>
    split
    · split; exacts [h, close (ends.programOutcome noOp _ _)]
    · exact h
  case readBackEnd bytes =>
    split
    · split; exacts [close (ends.readBackOutcome noOp _ bytes), h]
    · exact h
  case mountReadEnd bytes =>
    split
    · split; exacts [close (ends.mountReadDone noOp bytes), h]
    · exact h
  case eraseEnd st =>
    split
    · split; exacts [close (endErase _ st), h]
    · exact h
  case suspendStatus st =>
    split
    · split
      · split
        · exact h
        · split
          · exact close (kept.aside h (.preceded (State.tryResume_aside _) rfl rfl rfl rfl rfl))
          · exact close (endErase _ st)
      all_goals exact h
    · exact h
  case resumeStatus st =>
    split
    · exact h
    · split
      · exact close (kept.aside h (.of_eq rfl rfl rfl rfl rfl))
      · split
        · exact close (kept.aside h (.of_eq rfl rfl rfl rfl rfl))
        all_goals exact h
      · exact h

end

/-! ## Every command completes -/

/-- The state t comes after s: what s has driven stands, and the timebase and the waiting commands are kept. -/
def State.After (s t : State) : Prop :=
  t.pending = s.pending ∧ t.now = s.now ∧ s.wire <+: t.wire

theorem State.keptByCommands_after (s : State) : KeptByCommands s.After where
  aside := fun ⟨pending, now, wire⟩ same => ⟨same.pending.trans pending, same.now.trans now, wire.trans same.wire⟩
  job _ _ h := h
  taken _ h := h
  jobFreed _ _ _ h := h
  jobDropped _ _ h := h
  abandonJob h := by simpa [State.After] using h
  enterFault := fun ⟨pending, now, wire⟩ => by
    refine ⟨by simpa using pending, by simpa using now, wire.trans ?_⟩
    simpa [State.enterFault] using State.closeStream_wire_prefix _
  decideWrite _ h := by simpa [State.After] using h
  sealAll h := by simpa [State.After] using h
  resetBlocks _ _ h := h

/-- No command is refused or faults. -/
theorem exec_next (i : Instr) (s : State) : ∃ t, exec i s = .next t := by
  cases i <;> exact ⟨_, rfl⟩

/-- Settles O7: what has been driven, the timebase and the waiting commands are kept by every change of a step. -/
theorem everyCommandCompletes : Obligations.EveryCommandCompletes := by
  intro i s
  obtain ⟨t, done⟩ := exec_next i s
  obtain ⟨pending, now, driven, wire⟩ := exec_keeps s.keptByCommands_after i s t ⟨rfl, rfl, List.prefix_rfl⟩ done
  exact ⟨t, driven, done, pending, now, wire.symm⟩

end Sys2Proof.Machine
end

section
namespace Sys2Proof.Machine

/-! ## The law of the single slots -/

/-- What the staging law says of the slots but for the queue and the job (R18, R19). -/
structure Staging.SlotLaw (g : Staging) : Prop where
  page : ∀ i < 16, (g.slot i).page = none ↔ (g.slot i).state = .free
  rank : ∀ i < 16, (g.slot i).rank.isSome = true ↔ (g.slot i).state = .filling
  written : ∀ i < 16, (g.slot i).state = .free → (g.slot i).written = Vector.replicate _ false
  rankBound : ∀ i < 16, ∀ r, (g.slot i).rank = some r → 1 ≤ r ∧ r ≤ g.count .filling
  rankOnce : ∀ i < 16, ∀ k < 16, (g.slot i).rank.isSome = true → (g.slot i).rank = (g.slot k).rank → i = k

theorem State.StagingLaw.slotLaw {s : State} (law : s.StagingLaw) : s.staging.SlotLaw :=
  ⟨law.page, law.rank, law.written, law.rankBound, law.rankOnce⟩

/-- Slots that agree in state, page and rank. -/
theorem Staging.SlotLaw.of_agree {g h : Staging} (law : g.SlotLaw) (state : ∀ k, (h.slot k).state = (g.slot k).state)
    (page : ∀ k, (h.slot k).page = (g.slot k).page) (rank : ∀ k, (h.slot k).rank = (g.slot k).rank)
    (written : ∀ k < 16, (h.slot k).state = .free → (h.slot k).written = Vector.replicate _ false) : h.SlotLaw where
  page i hi := by rw [page, state]; exact law.page i hi
  rank i hi := by rw [rank, state]; exact law.rank i hi
  written := written
  rankBound i hi r hr := by
    have count : h.count .filling = g.count .filling := by simp only [Staging.count, state]
    rw [count]
    exact law.rankBound i hi r (rank i ▸ hr)
  rankOnce i hi k hk := by rw [rank, rank]; exact law.rankOnce i hi k hk

theorem Staging.SlotLaw.congr {g h : Staging} (law : g.SlotLaw) (slots : h.slots = g.slots) : h.SlotLaw := by
  have slot : ∀ k, h.slot k = g.slot k := fun k => by rw [Staging.slot, Staging.slot, slots]
  exact law.of_agree (fun k => by rw [slot]) (fun k => by rw [slot]) (fun k => by rw [slot]) fun k hk => by
    rw [slot]; exact law.written k hk

/-- A slot that is not FREE has bytes put into it (R22, R35). -/
theorem Staging.SlotLaw.putAll {g : Staging} (law : g.SlotLaw) (i : Nat) (l : List (Nat × Byte))
    (notFree : (g.slot i).state ≠ .free) : (g.setSlot i ((g.slot i).putAll l)).SlotLaw := by
  obtain ⟨state, page, rank⟩ := (g.slot i).putAll_frame l
  have slot := fun k => g.slot_setSlot i k ((g.slot i).putAll l)
  refine law.of_agree (fun k => ?_) (fun k => ?_) (fun k => ?_) fun k hk => ?_ <;> rw [slot k] <;> split
  · next at_i => rw [state, at_i.1]
  · rfl
  · next at_i => rw [page, at_i.1]
  · rfl
  · next at_i => rw [rank, at_i.1]
  · rfl
  · exact fun free => absurd (state ▸ free) notFree
  · exact law.written k hk

/-- What the close of a rank makes of another (R18, R28). -/
def rankAfter : Option Nat → Nat → Nat
  | some r, m => if r < m then m - 1 else m
  | none, m => m

theorem Staging.slot_closeRank_rankAfter (g : Staging) (rank : Option Nat) (k : Nat) :
    (g.closeRank rank).slot k = { g.slot k with rank := (g.slot k).rank.map (rankAfter rank) } := by
  cases rank with
  | none =>
    have same : rankAfter none = id := rfl
    simp [Staging.closeRank, same]
  | some r => exact g.slot_dropRanksAbove r k

/-- A slot that becomes one not FILLING, its rank closed (R18). -/
theorem Staging.SlotLaw.vacate {g : Staging} (law : g.SlotLaw) (n : Nat) (hn : n < 16) (x : Slot) (notFilling : x.state ≠ .filling)
    (noRank : x.rank = none) (paged : x.page = none ↔ x.state = .free)
    (cleared : x.state = .free → x.written = Vector.replicate _ false) :
    ((g.setSlot n x).closeRank (g.slot n).rank).SlotLaw := by
  have self : ((g.setSlot n x).closeRank (g.slot n).rank).slot n = x := by
    rw [Staging.slot_closeRank_rankAfter, Staging.slot_setSlot, if_pos ⟨rfl, hn⟩, noRank, Option.map_none, ← noRank]
  have other : ∀ k ≠ n, ((g.setSlot n x).closeRank (g.slot n).rank).slot k =
      { g.slot k with rank := (g.slot k).rank.map (rankAfter (g.slot n).rank) } := fun k hk => by
    rw [Staging.slot_closeRank_rankAfter, Staging.slot_setSlot, if_neg fun h => hk h.1.symm]
  have count := g.count_of_one_changed ((g.setSlot n x).closeRank (g.slot n).rank) n hn
    (fun k _ hk => by rw [other k hk]) .filling
  simp only [self, notFilling, if_false] at count
  -- A rank of another slot is not the one closed.
  have apart : ∀ k < 16, k ≠ n → ∀ m, (g.slot k).rank = some m → (g.slot n).rank ≠ some m := fun k hk ne m hm same =>
    ne (law.rankOnce k hk n hn (by rw [hm]; rfl) (hm.trans same.symm))
  constructor
  case page =>
    intro k hk
    by_cases at_n : k = n
    · rw [at_n, self]; exact paged
    · rw [other k at_n]; exact law.page k hk
  case rank =>
    intro k hk
    by_cases at_n : k = n
    · rw [at_n, self, noRank]; simpa using notFilling
    · rw [other k at_n]; simpa using law.rank k hk
  case written =>
    intro k hk
    by_cases at_n : k = n
    · rw [at_n, self]; exact cleared
    · rw [other k at_n]; exact law.written k hk
  case rankBound =>
    intro k hk r hr
    have at_n : k ≠ n := fun at_n => by rw [at_n, self, noRank] at hr; exact nomatch hr
    rw [other k at_n] at hr
    obtain ⟨m, hm, rfl⟩ := Option.map_eq_some_iff.mp hr
    obtain ⟨least, most⟩ := law.rankBound k hk m hm
    have ne := apart k hk at_n m hm
    cases closed : (g.slot n).rank with
    | none =>
      have notFilled : (g.slot n).state ≠ .filling := fun h => by
        have ranked := (law.rank n hn).mpr h
        rw [closed] at ranked
        exact nomatch ranked
      simp only [notFilled, if_false] at count
      simp only [rankAfter]
      rw [closed] at count
      omega
    | some q =>
      have filled : (g.slot n).state = .filling := (law.rank n hn).mp (by rw [closed]; rfl)
      obtain ⟨leastQ, mostQ⟩ := law.rankBound n hn q closed
      have ne : m ≠ q := fun h => ne (by rw [closed, h])
      simp only [filled, if_true] at count
      rw [closed] at count
      simp only [rankAfter]
      split <;> omega
  case rankOnce =>
    intro i hi k hk hr same
    have notN : ∀ a, (((g.setSlot n x).closeRank (g.slot n).rank).slot a).rank.isSome = true → a ≠ n := fun a ha at_n => by
      rw [at_n, self, noRank] at ha; exact nomatch ha
    have hin := notN i hr
    have hkn := notN k (same ▸ hr)
    rw [other i hin] at hr same
    rw [other k hkn] at same
    obtain ⟨m, hm⟩ : ∃ m, (g.slot i).rank = some m := Option.isSome_iff_exists.mp (by simpa using hr)
    obtain ⟨m', hm', eq⟩ := Option.map_eq_some_iff.mp (same.symm.trans (by rw [hm]; rfl))
    have ne := apart i hi hin m hm
    have ne' := apart k hk hkn m' hm'
    have least := (law.rankBound i hi m hm).1
    have least' := (law.rankBound k hk m' hm').1
    refine law.rankOnce i hi k hk (by rw [hm]; rfl) ?_
    rw [hm, hm', Option.some.injEq]
    cases closed : (g.slot n).rank with
    | none => rw [closed] at eq; exact eq.symm
    | some q =>
      rw [closed] at eq ne ne'
      rw [ne_eq, Option.some.injEq] at ne ne'
      simp only [rankAfter] at eq
      split at eq <;> split at eq <;> omega

/-! ## Slots sealed -/

theorem Staging.SlotLaw.sealSlot {g : Staging} (law : g.SlotLaw) (i : Nat) : (g.sealSlot i).SlotLaw := by
  unfold Staging.sealSlot
  split
  · next filling =>
    have hi := g.lt_of_not_free i (by simp [filling])
    have notFree : (g.slot i).page ≠ none := fun h => by simpa [filling] using (law.page i hi).mp h
    exact (law.vacate i hi { g.slot i with state := .sealed, rank := none } nofun rfl (iff_of_false notFree nofun) nofun).congr rfl
  · exact law

/-- A FILLING slot sealed: it is the last of the queue (R28). -/
theorem State.StagingLaw.sealSlot {s : State} (law : s.StagingLaw) (i : Nat) :
    (s.withStaging (s.staging.sealSlot i)).StagingLaw := by
  by_cases filling : (s.staging.slot i).state = .filling
  case neg =>
    rw [Staging.sealSlot, if_neg filling]
    exact law.congr rfl rfl rfl
  have hi := s.staging.lt_of_not_free i (by simp [filling])
  obtain ⟨r, rank⟩ := Option.isSome_iff_exists.mp ((law.rank i hi).mpr filling)
  have self := s.staging.slot_sealSlot_self i r filling rank
  have other := s.staging.slot_sealSlot_other i r filling rank
  have queue := s.staging.sealSlot_queue i r filling rank
  obtain ⟨page, rank, written, rankBound, rankOnce⟩ := law.slotLaw.sealSlot i
  have samePage : ∀ k, ((s.staging.sealSlot i).slot k).page = (s.staging.slot k).page := fun k => by
    by_cases hk : k = i
    · rw [hk, self]
    · rw [other k hk]
  have sameOpen : ∀ k, ((s.staging.sealSlot i).slot k).isOpen = (s.staging.slot k).isOpen := fun k => by
    by_cases hk : k = i
    · rw [hk, self]; simp [Slot.isOpen, filling]
    · rw [other k hk]; rfl
  have committing : ∀ k, ((s.staging.sealSlot i).slot k).state = .committing ↔ (s.staging.slot k).state = .committing := fun k => by
    by_cases hk : k = i
    · rw [hk, self]; simp [filling]
    · rw [other k hk]
  have notQueued : i ∉ s.staging.queue := fun hq => by simpa [filling] using ((law.queue i).mp hq).2
  refine ⟨page, rank, written, fun k => ?_, ?_, rankBound, rankOnce, fun k => ?_, law.jobNodup, ?_, ?_, law.source⟩
  · rw [State.withStaging_staging, queue, List.mem_append, List.mem_singleton, law.queue k]
    by_cases hk : k = i
    · rw [hk, self]; simp [hi]
    · rw [other k hk]; simp [hk]
  · rw [State.withStaging_staging, queue]
    exact List.nodup_append.mpr ⟨law.queueNodup, List.nodup_singleton i, fun a ha b hb => by
      rintro rfl; exact notQueued (List.mem_singleton.mp hb ▸ ha)⟩
  · rw [State.withStaging_staging, committing]
    exact law.job k
  · intro a ha b hb
    rw [State.withStaging_staging, sameOpen, sameOpen, samePage, samePage]
    exact law.openOnce a ha b hb
  · intro a ha b hb
    rw [State.withStaging_staging, committing, committing, samePage, samePage]
    exact law.committingOnce a ha b hb

theorem State.StagingLaw.withStagingReport {s : State} {g : Staging} (law : (s.withStaging g).StagingLaw) :
    (s.withStagingReport g).StagingLaw := by
  unfold State.withStagingReport
  split
  · exact law.congr rfl rfl rfl
  · exact law

theorem State.StagingLaw.sealAll {s : State} (law : s.StagingLaw) : s.sealAll.StagingLaw := by
  have each : ∀ (l : List Nat) (t : State), t.StagingLaw → (t.withStaging (l.foldl Staging.sealSlot t.staging)).StagingLaw := by
    intro l
    induction l with
    | nil => exact fun t law => law.congr rfl rfl rfl
    | cons i l ih => exact fun t law => ih _ (law.sealSlot i)
  exact (each s.staging.fillingInOrder s law).withStagingReport

/-! ## Writes taken -/

/-- A write taken into an open slot (R22). -/
theorem State.StagingLaw.writeInto {s : State} (law : s.StagingLaw) (i : Nat) (w : PageWrite)
    (isOpen : (s.staging.slot i).isOpen = true) : (s.writeInto i w).StagingLaw := by
  have notFree : (s.staging.slot i).state ≠ .free := fun free => by simp [Slot.isOpen, free] at isOpen
  obtain ⟨sameState, samePage, -⟩ := (s.staging.slot i).putAll_frame w.bytes
  have slot := fun k => s.staging.slot_setSlot i k ((s.staging.slot i).putAll w.bytes)
  have state : ∀ k, ((s.writeInto i w).staging.slot k).state = (s.staging.slot k).state := fun k => by
    rw [State.writeInto, State.restartQuiet_staging, State.withStaging_staging, slot]
    split
    · next at_i => rw [sameState, at_i.1]
    · rfl
  have page : ∀ k, ((s.writeInto i w).staging.slot k).page = (s.staging.slot k).page := fun k => by
    rw [State.writeInto, State.restartQuiet_staging, State.withStaging_staging, slot]
    split
    · next at_i => rw [samePage, at_i.1]
    · rfl
  obtain ⟨pageFree, rank, written, rankBound, rankOnce⟩ := law.slotLaw.putAll i w.bytes notFree
  refine ⟨pageFree, rank, written, fun k => ?_, law.queueNodup, rankBound, rankOnce, fun k => ?_, law.jobNodup, ?_, ?_, law.source⟩
  · rw [state]; exact law.queue k
  · rw [state]; exact law.job k
  · simpa only [Slot.isOpen, state, page] using law.openOnce
  · simpa only [state, page] using law.committingOnce

/-- A FREE slot allocated for a page that has no open slot is the youngest of the FILLING slots (R23). -/
theorem State.StagingLaw.allocate {s : State} (law : s.StagingLaw) (i : Nat) (w : PageWrite) (hi : i < 16)
    (free : (s.staging.slot i).state = .free) (closed : s.staging.openSlot w.page = none) :
    (s.withStaging (s.staging.allocate i w)).StagingLaw := by
  obtain ⟨state, page, rank⟩ := s.staging.slot_allocate_frame i w hi
  have other := s.staging.slot_allocate_other i w
  have count := s.staging.count_filling_allocate i w hi free
  have noRank : (s.staging.slot i).rank = none := by simpa [free] using (law.rank i hi).not
  -- The rank given is above every other one.
  have fresh : ∀ k < 16, (s.staging.slot k).rank ≠ some (s.staging.count .filling + 1) := fun k hk h => by
    have := law.rankBound k hk _ h
    omega
  have newPage : ∀ k, (s.staging.slot k).isOpen = true → (s.staging.slot k).page ≠ some w.page :=
    s.staging.openSlot_none w.page closed
  have unchanged : ∀ st, st ≠ .free → st ≠ .filling → ∀ k,
      ((s.staging.allocate i w).slot k).state = st ↔ (s.staging.slot k).state = st := fun st notFree notFilling k => by
    by_cases hk : k = i
    · rw [hk, state, free]; exact iff_of_false notFilling.symm notFree.symm
    · rw [other k hk]
  constructor
  case page =>
    intro k hk
    by_cases at_i : k = i
    · rw [at_i, State.withStaging_staging, page, state]; exact iff_of_false nofun nofun
    · rw [State.withStaging_staging, other k at_i]; exact law.page k hk
  case rank =>
    intro k hk
    by_cases at_i : k = i
    · rw [at_i, State.withStaging_staging, rank, state]; exact iff_of_true rfl rfl
    · rw [State.withStaging_staging, other k at_i]; exact law.rank k hk
  case written =>
    intro k hk
    by_cases at_i : k = i
    · rw [at_i, State.withStaging_staging, state]; exact nofun
    · rw [State.withStaging_staging, other k at_i]; exact law.written k hk
  case queue =>
    intro k
    rw [State.withStaging_staging, unchanged .sealed nofun nofun]
    exact law.queue k
  case queueNodup => exact law.queueNodup
  case rankBound =>
    intro k hk r hr
    rw [State.withStaging_staging, count]
    by_cases at_i : k = i
    · rw [at_i, State.withStaging_staging, rank] at hr
      obtain rfl := Option.some.inj hr
      omega
    · rw [State.withStaging_staging, other k at_i] at hr
      have := law.rankBound k hk r hr
      omega
  case rankOnce =>
    intro a ha b hb hr same
    rw [State.withStaging_staging] at hr same
    by_cases hai : a = i <;> by_cases hbi : b = i
    · rw [hai, hbi]
    · rw [hai, rank, other b hbi] at same
      exact absurd same.symm (fresh b hb)
    · rw [hbi, rank, other a hai] at same
      exact absurd same (fresh a ha)
    · rw [other a hai] at hr same
      rw [other b hbi] at same
      exact law.rankOnce a ha b hb hr same
  case job =>
    intro k
    rw [State.withStaging_staging, unchanged .committing nofun nofun]
    exact law.job k
  case jobNodup => exact law.jobNodup
  case openOnce =>
    intro a ha b hb openA openB same
    rw [State.withStaging_staging] at openA openB same
    by_cases hai : a = i <;> by_cases hbi : b = i
    · rw [hai, hbi]
    · rw [hai, page, other b hbi] at same
      rw [other b hbi] at openB
      exact absurd same.symm (newPage b openB)
    · rw [hbi, page, other a hai] at same
      rw [other a hai] at openA
      exact absurd same (newPage a openA)
    · rw [other a hai] at openA same
      rw [other b hbi] at openB same
      exact law.openOnce a ha b hb openA openB same
  case committingOnce =>
    intro a ha b hb stateA stateB same
    rw [State.withStaging_staging] at stateA stateB same
    have hai : a ≠ i := by rintro rfl; rw [state] at stateA; exact nomatch stateA
    have hbi : b ≠ i := by rintro rfl; rw [state] at stateB; exact nomatch stateB
    rw [other a hai] at stateA same
    rw [other b hbi] at stateB same
    exact law.committingOnce a ha b hb stateA stateB same
  case source => exact law.source

theorem State.StagingLaw.pressureSeal {s : State} (law : s.StagingLaw) : s.pressureSeal.StagingLaw := by
  unfold State.pressureSeal
  split
  · split
    · exact (law.sealSlot _).withStagingReport
    · exact law
  · exact law

theorem State.StagingLaw.decideWrite {s : State} (law : s.StagingLaw) (w : PageWrite) : (s.decideWrite w).StagingLaw := by
  unfold State.decideWrite
  split
  · next found =>
    exact (law.writeInto _ w (s.staging.openSlot_some _ _ found).1).congr rfl rfl rfl
  · next closed =>
    split
    · next i lowest =>
      have free : (s.staging.slot i).state = .free := by simpa using List.find?_some lowest
      have hi : i < 16 := List.mem_range.mp (List.mem_of_find?_eq_some lowest)
      rw [State.allocateFor_eq]
      have allocated : State.StagingLaw { s with staging := s.staging.allocate i w, timer := s.timerAfterAllocation } :=
        (law.allocate i w hi free closed).congr rfl rfl rfl
      exact allocated.pressureSeal.congr rfl rfl rfl
    · exact law.congr rfl rfl rfl

/-! ## Slots handed back -/

/-- A newer slot absorbed into an older one that has no rank (R35). -/
theorem Staging.SlotLaw.absorb {g : Staging} (law : g.SlotLaw) (i n : Nat) (hi : (g.slot i).state = .committing)
    (isOpen : (g.slot n).isOpen = true) : (g.absorb i n).SlotLaw := by
  have apart : i ≠ n := by rintro rfl; simp [Slot.isOpen, hi] at isOpen
  have taken := law.putAll i (g.slot n).presentBytes (by simp [hi])
  have same : (g.setSlot i ((g.slot i).absorb (g.slot n))).slot n = g.slot n := by
    rw [Staging.slot_setSlot, if_neg fun h => apart h.1]
  have vacated := taken.vacate n (g.lt_of_isOpen n isOpen) (g.slot n).freed nofun rfl (iff_of_true rfl rfl) fun _ => rfl
  rw [← Slot.absorb, same] at vacated
  refine vacated.congr ?_
  simp only [Staging.absorb]
  cases (g.slot n).rank <;> rfl

/-- A COMMITTING slot handed back (R34). -/
theorem Staging.SlotLaw.returnSlot {g : Staging} (law : g.SlotLaw) (i : Nat) (hi : (g.slot i).state = .committing) :
    (g.returnSlot i).SlotLaw := by
  have lt := g.lt_of_not_free i (by simp [hi])
  have becomesSealed : ∀ h : Staging, h.SlotLaw → (h.slot i).state = .committing → (h.setSlotState .sealed i).SlotLaw := by
    intro h law committing
    have noRank : (h.slot i).rank = none := by simpa [committing] using (law.rank i lt).not
    have notFree : (h.slot i).page ≠ none := fun h => by simpa [committing] using (law.page i lt).mp h
    have vacated := law.vacate i lt { h.slot i with state := .sealed } nofun noRank (iff_of_false notFree nofun) nofun
    rwa [noRank] at vacated
  unfold Staging.returnSlot
  split
  · next n found =>
    obtain ⟨page, -, found⟩ := Option.bind_eq_some_iff.mp found
    have isOpen := (g.openSlot_some page n found).1
    refine becomesSealed _ (law.absorb i n hi isOpen) ?_
    obtain ⟨f, slot⟩ := g.slot_absorb i n lt (g.lt_of_isOpen n isOpen)
    have apart : n ≠ i := by rintro rfl; simp [Slot.isOpen, hi] at isOpen
    rw [slot, if_neg apart, if_pos rfl]
    exact ((g.slot i).putAll_frame _).1.trans hi
  · exact becomesSealed g law hi

theorem Staging.SlotLaw.foldl_returnSlot (l : List Nat) {g : Staging} (law : g.SlotLaw) (ok : g.Returnable l) :
    (l.foldl Staging.returnSlot g).SlotLaw := by
  induction l generalizing g with
  | nil => exact law
  | cons i l ih =>
    have single : g.Returnable [i] :=
      { committing := fun k hk => ok.committing k (by simp_all)
        paged := fun k hk => ok.paged k (by simp_all)
        apart := List.pairwise_singleton _ i
        once := fun k hk => ok.once k (by simp_all) }
    exact ih (law.returnSlot i (ok.committing i List.mem_cons_self)) (ok.later (g.returnSlot_returned i single))

/-- What becomes of each slot when those of a list are handed back: of the list, it is SEALED with its page; absorbed, it is FREE and
in no queue; else it is as it was but for its rank (R34, R35). -/
theorem Staging.Returned.slot_cases {g h : Staging} {l : List Nat} (back : g.Returned h l) (k : Nat) :
    (k ∈ l ∧ (h.slot k).state = .sealed ∧ (h.slot k).page = (g.slot k).page) ∨
      (k ∉ l ∧ (∃ i ∈ l, g.newerOf k i) ∧ (h.slot k).state = .free ∧ k ∉ h.queue) ∨
      (k ∉ l ∧ (∀ i ∈ l, ¬g.newerOf k i) ∧ ∃ r, h.slot k = { g.slot k with rank := r }) := by
  by_cases listed : k ∈ l
  · exact .inl ⟨listed, back.state k listed, back.page k listed⟩
  · by_cases newer : ∃ i ∈ l, g.newerOf k i
    · obtain ⟨i, hi, hk⟩ := newer
      exact .inr (.inl ⟨listed, ⟨i, hi, hk⟩, back.absorbed i hi k hk⟩)
    · have newer : ∀ i ∈ l, ¬g.newerOf k i := by simpa using newer
      exact .inr (.inr ⟨listed, newer, back.others k listed newer⟩)

/-- The job's slots handed back and the job given up (R61, R34, R35). -/
theorem State.StagingLaw.returnSlots {s t : State} (law : s.StagingLaw) {j : Job} (hj : s.engine.job = some j)
    (staging : t.staging = s.staging.returnSlots j.slots) (noJob : t.engine.job = none) : t.StagingLaw := by
  have back := s.staging.foldl_returnSlot_returned j.slots (law.returnable hj)
  obtain ⟨page, rank, written, rankBound, rankOnce⟩ :=
    (law.slotLaw.foldl_returnSlot j.slots (law.returnable hj)).congr (h := t.staging) (by rw [staging]; rfl)
  have slot : ∀ k, t.staging.slot k = (j.slots.foldl Staging.returnSlot s.staging).slot k := fun k => by rw [staging]; rfl
  have queue : t.staging.queue = j.slots ++ (j.slots.foldl Staging.returnSlot s.staging).queue := by rw [staging]; rfl
  have cases := fun k => slot k ▸ back.slot_cases k
  have noCommitting : ∀ k, (t.staging.slot k).state ≠ .committing := by
    intro k committing
    rcases cases k with ⟨-, isSealed, -⟩ | ⟨-, -, isFree, -⟩ | ⟨listed, -, r, same⟩
    · rw [isSealed] at committing; exact nomatch committing
    · rw [isFree] at committing; exact nomatch committing
    · rw [same] at committing; exact listed (law.mem_slots hj committing)
  refine ⟨page, rank, written, fun k => ?_, ?_, rankBound, rankOnce, fun k => ?_, ?_, fun a ha b hb openA openB same => ?_,
    fun a ha b hb stateA => ?_, ?_⟩
  · rw [queue, List.mem_append]
    rcases cases k with ⟨listed, isSealed, -⟩ | ⟨listed, -, isFree, dequeued⟩ | ⟨listed, notNewer, r, same⟩
    · exact iff_of_true (.inl listed) ⟨(law.committing hj listed).1, isSealed⟩
    · exact iff_of_false (not_or.mpr ⟨listed, dequeued⟩) (by rintro ⟨-, h⟩; rw [isFree] at h; exact nomatch h)
    · rw [same, ← law.queue k]
      exact ⟨fun h => back.sublist.subset (h.resolve_left listed), fun h => .inr (back.queue k h notNewer)⟩
  · rw [queue]
    refine List.nodup_append.mpr ⟨law.jobNodup j hj, back.sublist.nodup law.queueNodup, fun a ha b hb => ?_⟩
    rintro rfl
    have isSealed := ((law.queue a).mp (back.sublist.subset hb)).2
    rw [(law.committing hj ha).2] at isSealed
    exact nomatch isSealed
  · exact iff_of_false (by rintro ⟨x, hx, -⟩; rw [noJob] at hx; exact nomatch hx) fun h => noCommitting k h.2
  · intro x hx; rw [noJob] at hx; exact nomatch hx
  · -- An open slot is one handed back, or was open before and is no newer slot of a page handed back.
    have openCases : ∀ k, (t.staging.slot k).isOpen = true →
        (k ∈ j.slots ∧ (t.staging.slot k).page = (s.staging.slot k).page) ∨
          ((s.staging.slot k).isOpen = true ∧ (∀ i ∈ j.slots, ¬s.staging.newerOf k i) ∧
            (t.staging.slot k).page = (s.staging.slot k).page) := by
      intro k isOpen
      rcases cases k with ⟨listed, -, samePage⟩ | ⟨-, -, isFree, -⟩ | ⟨-, notNewer, r, same⟩
      · exact .inl ⟨listed, samePage⟩
      · simp [Slot.isOpen, isFree] at isOpen
      · rw [same] at isOpen ⊢
        exact .inr ⟨isOpen, notNewer, rfl⟩
    rcases openCases a openA with ⟨listedA, pageA⟩ | ⟨openA, notNewerA, pageA⟩ <;>
      rcases openCases b openB with ⟨listedB, pageB⟩ | ⟨openB, notNewerB, pageB⟩ <;> rw [pageA, pageB] at same
    · exact law.committingOnce a ha b hb (law.committing hj listedA).2 (law.committing hj listedB).2 same
    · exact absurd ⟨openB, same.symm⟩ (notNewerB a listedA)
    · exact absurd ⟨openA, same⟩ (notNewerA b listedB)
    · exact law.openOnce a ha b hb openA openB same
  · exact absurd stateA (noCommitting a)
  · intro x hx; rw [noJob] at hx; exact nomatch hx

theorem State.StagingLaw.abandonJob {s : State} (law : s.StagingLaw) : s.abandonJob.StagingLaw := by
  cases hj : s.engine.job with
  | none => simpa [State.abandonJob, hj] using law
  | some j =>
    rw [s.abandonJob_eq j hj]
    exact law.returnSlots hj rfl rfl

/-! ## The staging law kept -/

/-- The job gone on with, its slots kept (R44). -/
theorem State.StagingLaw.withJob {s : State} (law : s.StagingLaw) {j k : Job} (hj : s.engine.job = some j)
    (goesOn : k.continues j) : (s.withJob (some k)).StagingLaw := by
  obtain ⟨sameSlots, source⟩ := goesOn
  obtain ⟨h1, h2, h3, h4, h5, h6, h7, h8, h9, h10, h11, h12⟩ := law
  refine ⟨h1, h2, h3, h4, h5, h6, h7, fun i => ?_, ?_, h10, h11, ?_⟩
  · refine Iff.trans ⟨?_, ?_⟩ (h8 i)
    · rintro ⟨_, ⟨⟩, hi⟩; exact ⟨j, hj, sameSlots ▸ hi⟩
    · rintro ⟨x, hx, hi⟩
      obtain rfl := Option.some.inj (hj.symm.trans hx)
      exact ⟨k, rfl, sameSlots ▸ hi⟩
  · rintro _ ⟨⟩; exact sameSlots ▸ h9 j hj
  · rintro _ ⟨⟩ h; exact sameSlots.trans (h12 j hj (source h))

/-- The entry to FAULT leaves every slot FREE, none queued, and no job (R41, R64). -/
theorem State.enterFault_stagingLaw (s : State) : s.enterFault.StagingLaw := by
  have slot : ∀ i < 16, s.enterFault.staging.slot i = (s.staging.slot i).freed := fun i hi => by
    simp [State.enterFault, Staging.discard, Staging.slot, hi, Config.slotCount]
  have queue : s.enterFault.staging.queue = [] := rfl
  have job : s.enterFault.engine.job = none := rfl
  have state : ∀ i < 16, (s.enterFault.staging.slot i).state = .free := fun i hi => by rw [slot i hi]; rfl
  constructor
  case page => intro i hi; rw [slot i hi]; exact iff_of_true rfl rfl
  case rank => intro i hi; rw [slot i hi]; exact iff_of_false nofun nofun
  case written => intro i hi _; rw [slot i hi]; rfl
  case queue => intro i; rw [queue]; exact iff_of_false nofun fun ⟨hi, h⟩ => by rw [state i hi] at h; exact nomatch h
  case queueNodup => rw [queue]; exact List.nodup_nil
  case rankBound => intro i hi r h; rw [slot i hi] at h; exact nomatch h
  case rankOnce => intro i hi k _ h; rw [slot i hi] at h; exact nomatch h
  case job =>
    intro i
    rw [job]
    exact iff_of_false (fun ⟨_, h, _⟩ => nomatch h) fun ⟨hi, h⟩ => by rw [state i hi] at h; exact nomatch h
  case jobNodup => exact nofun
  case openOnce => intro i hi k _ h; rw [Slot.isOpen, state i hi] at h; exact nomatch h
  case committingOnce => intro i hi k _ h; rw [state i hi] at h; exact nomatch h
  case source => exact nofun

/-- The slots of a take are queued ones (R31). -/
theorem Staging.mem_queue_of_mem_takeList (g : Staging) (i : Nat) (hi : i ∈ g.takeList) : i ∈ g.queue := by
  unfold Staging.takeList at hi
  split at hi
  · exact nomatch hi
  · exact List.mem_of_mem_filter ((List.mem_insertionSort _).mp hi)

/-- Every change of slots, queue and job keeps the staging law. -/
theorem keptByCommands_stagingLaw : KeptByCommands State.StagingLaw where
  aside law same := law.congr same.slots same.queue same.job
  job hj goesOn law := law.withJob hj goesOn
  taken due law := by
    obtain ⟨idle, -, -⟩ := (State.takeDue_iff _).mp due
    refine law.take idle (fun i hi => ?_) ?_ rfl rfl rfl
    · exact Staging.mem_queue_of_mem_takeList _ i hi
    · exact law.takeList_sorted.imp fun {a b} lt same => by simp [same] at lt
  jobFreed k hj empty law := law.freeSlots hj rfl empty
  jobDropped hj source law := law.dropJob fun x hx => by
    obtain rfl := Option.some.inj (hj.symm.trans hx)
    exact law.source _ hj source
  abandonJob law := law.abandonJob
  enterFault _ := State.enterFault_stagingLaw _
  decideWrite w law := law.decideWrite w
  sealAll law := law.sealAll
  resetBlocks _ _ _ := .of_reset rfl rfl

/-- Settles O5: every command keeps the law, and neither the queue of commands nor the timebase is part of it. -/
theorem stepKeepsStagingLaw : Obligations.StepKeepsStagingLaw := by
  intro s t law done
  unfold step at done
  split at done
  · exact exec_keeps keptByCommands_stagingLaw _ _ t (by exact law.congr rfl rfl rfl) done
  · obtain rfl := Host.Outcome.next.inj done
    exact law.congr rfl rfl rfl

end Sys2Proof.Machine
end

section
namespace Sys2Proof.Machine

/-! ## The laws of mode and port under a change -/

theorem State.ModeLaw.congr {s t : State} (law : s.ModeLaw) (ctl : t.ctl = s.ctl) : t.ModeLaw := by
  obtain ⟨degraded, deasserted, asserted, mount⟩ := law
  constructor <;> rw [ctl] <;> assumption

/-- The law of the port speaks of the port, the waiting write, the mode and the port's width. -/
theorem State.PortLaw.congr {s t : State} (law : s.PortLaw) (port : t.port = s.port)
    (waiting : t.staging.waiting = s.staging.waiting) (mode : t.ctl.mode = s.ctl.mode) (wide : t.ctl.wide = s.ctl.wide) :
    t.PortLaw := by
  obtain ⟨h1, h2, h3, h4, h5, h6, h7⟩ := law
  constructor <;> simp only [port, waiting, mode, wide] <;> assumption

/-- With no mount under way in a mode without one. -/
theorem State.ModeLaw.noMount {s : State} (law : s.ModeLaw) (mode : s.ctl.mode.isMount = false) : s.ctl.mount.isSome = false := by
  refine Bool.eq_false_iff.mpr fun under => ?_
  rw [law.mount under] at mode
  exact nomatch mode

/-- A mount is under way in MOUNTING and FORMATTING only, where no write waits (R25, R168). -/
theorem State.PortLaw.noWrite {s : State} (law : s.PortLaw) (mode : s.ctl.mode ≠ .ready) : s.staging.waiting = none := by
  by_contra waits
  exact mode (law.ready (Option.isSome_iff_ne_none.mpr waits))

/-! ## The cycle held -/

/-- The port holds cycle c: HWAITn low, HFAILn high, no lane driven (R133, R145). -/
structure HostPort.Holding (p : HostPort) (c : Cycle) : Prop where
  cycle : p.cycle = some c
  hwaitn : p.hwaitn = false
  hfailn : p.hfailn = true
  low : p.hadLow = none
  high : p.hadHigh = none

theorem State.PortLaw.holding {s : State} (law : s.PortLaw) {c : Cycle} (hc : s.port.cycle = some c)
    (held : c.cond.held = true) : s.port.Holding c := by
  have undriven : ¬(s.port.hadLow.isSome = true ∨ s.port.hadHigh.isSome = true) := fun driven => by
    obtain ⟨x, hx, -, released⟩ := law.driven driven
    obtain rfl := Option.some.inj (hc.symm.trans hx)
    rw [held] at released
    exact nomatch released
  simp only [not_or, Option.not_isSome_iff_eq_none] at undriven
  refine ⟨hc, ?_, ?_, undriven.1, undriven.2⟩
  · rw [law.hwaitn, hc]; simp [held]
  · rw [law.hfailn, hc]; cases hcond : c.cond <;> simp [hcond, CycleCond.held] at held ⊢

section
variable {p : HostPort} {c : Cycle} (holding : p.Holding c) {t : State}
include holding

/-- The held cycle answered, with no write waiting (R136, R145). -/
theorem HostPort.Holding.answered (values : List Byte) (port : t.port = p.answer t.ctl.wide values)
    (waiting : t.staging.waiting = none) : t.PortLaw := by
  obtain ⟨cycle, -, hfailn, low, high⟩ := holding
  have after : t.port =
      { p with
        cycle := some { c with cond := .answered }
        hwaitn := true
        hadLow := if c.isRead then some (laneValue c.bytes values .low) else none
        hadHigh := if c.isRead && t.ctl.wide then some (laneValue c.bytes values .high) else none } := by
    rw [port, HostPort.answer, cycle, low, high]
  constructor
  all_goals simp only [after, waiting, hfailn]
  case hwaitn => rfl
  case hfailn => rfl
  case driven => cases hr : c.isRead <;> simp [CycleCond.held]
  case wide => cases hr : c.isRead <;> simp
  case waiting => rfl
  case ready => exact nofun
  case heldForMount => exact nofun

/-- The held cycle error-terminated, with no write waiting (R145). -/
theorem HostPort.Holding.errorTerminated (port : t.port = p.errorTerminate t.ctl.wide) (waiting : t.staging.waiting = none) :
    t.PortLaw := by
  obtain ⟨cycle, -, hfailn, low, high⟩ := holding
  have after : t.port =
      { p with
        cycle := some { c with cond := .answeredError }
        hwaitn := true
        hfailn := false
        hadLow := if c.isRead then some 0xFF else none
        hadHigh := if c.isRead && t.ctl.wide then some 0xFF else none } := by
    rw [port, HostPort.errorTerminate, cycle, low, high]
  constructor
  all_goals simp only [after, waiting]
  case hwaitn => rfl
  case hfailn => rfl
  case driven => cases hr : c.isRead <;> simp [CycleCond.held]
  case wide => cases hr : c.isRead <;> simp
  case waiting => rfl
  case ready => exact nofun
  case heldForMount => exact nofun

/-- The cycle still held, in another of the three conditions of a held one (R138, R25, R38). -/
theorem HostPort.Holding.holdsOn (k : Cycle) (held : k.cond.held = true) (port : t.port = { p with cycle := some k })
    (waiting : t.staging.waiting.isSome = (k.cond == .writeWaiting)) (ready : k.cond = .writeWaiting → t.ctl.mode = .ready)
    (mount : k.cond = .heldForMount → t.ctl.mode.isMount = true) : t.PortLaw := by
  obtain ⟨-, hwaitn, hfailn, low, high⟩ := holding
  constructor
  all_goals simp only [port, waiting, hwaitn, hfailn, low, high]
  case hwaitn => simp [held]
  case hfailn => cases hcond : k.cond <;> simp [hcond, CycleCond.held] at held ⊢
  case driven => simp
  case wide => simp
  case waiting => simp
  case ready => simpa using ready
  case heldForMount => simpa using mount

end

/-- A cycle for which a write waits is held (R25). -/
theorem State.PortLaw.holding_of_waiting {s : State} (law : s.PortLaw) {w : PageWrite} (waiting : s.staging.waiting = some w) :
    ∃ c, s.port.Holding c := by
  have waits := law.waiting
  rw [waiting] at waits
  cases hc : s.port.cycle with
  | none => rw [hc] at waits; exact nomatch waits
  | some c =>
    rw [hc] at waits
    have cond : c.cond = .writeWaiting := by simpa using waits.symm
    exact ⟨c, law.holding hc (by rw [cond]; rfl)⟩

/-- A change of mode: on leaving READY the waiting write's cycle is error-terminated (R27). -/
theorem State.PortLaw.setMode {s : State} (law : s.PortLaw) (m : Mode) (stays : s.ctl.mode.isMount = true → m.isMount = true) :
    (s.setMode m).PortLaw := by
  obtain ⟨h1, h2, h3, h4, h5, h6, h7⟩ := id law
  have changed : (m ≠ .ready → s.staging.waiting = none) → (s.withCtl { s.ctl with mode := m }).PortLaw := fun noWrite => by
    refine ⟨h1, h2, h3, h4, h5, fun waits => ?_, fun h => stays (h7 h)⟩
    by_contra left
    have waits : s.staging.waiting.isSome = true := waits
    rw [noWrite left] at waits
    exact nomatch waits
  simp only [State.setMode]
  split
  · have kept : ∀ t : State, t.PortLaw → t.withdrawErase.PortLaw := fun t law =>
      law.congr (by simp) (by simp) (by simp) (by simp)
    refine kept _ ?_
    cases waiting : s.staging.waiting with
    | none =>
      have same : (s.withCtl { s.ctl with mode := m }).failWaiting = s.withCtl { s.ctl with mode := m } := by
        simp [State.failWaiting, waiting]
      rw [same]
      exact changed fun _ => waiting
    | some w =>
      obtain ⟨c, holding⟩ := law.holding_of_waiting waiting
      have fails : (s.withCtl { s.ctl with mode := m }).failWaiting =
          (s.withCtl { s.ctl with mode := m }).dropWaiting.errorTerminate := by
        simp [State.failWaiting, waiting]
      rw [fails]
      exact holding.errorTerminated rfl rfl
  · next stay =>
    exact changed fun left => law.noWrite fun ready => stay ⟨ready, left⟩

/-! ## The laws of the link before the end of a step -/

/-- What the link's record keeps within a step: the laws of `State.LinkLaw` on power, operation and erase; and a suspension with no
operation in progress has a host read run outstanding, and no other request granted (R120). -/
structure Link.Coherent (k : Link) : Prop where
  asleep : k.power.needsWake = true → k.op = none ∧ k.erasing = none
  waking : k.power = .waking ↔ ∃ o since, k.op = some o ∧ o.stage = .waking since
  suspended : ∀ e, k.erasing = some e → e.progress = .suspended →
    k.op = none ∨ ∃ o r a, k.op = some o ∧ o.op = .hostRun r a ∧ o.stage = .reading
  running : ∀ e, k.erasing = some e → e.progress ≠ .suspended →
    ∃ o since, k.op = some o ∧ o.user = e.user ∧ o.op = .erase e.sector ∧ o.stage = .polling since
  served : k.op = none → k.suspended = true → k.requests.hostRead.isSome = true ∧ ∀ l, k.granted = some l → l = .hostRead

/-- The flash is awake with no erase under way and no wake in progress: so the link is at the end of an operation but a host read
run's (R128). -/
structure Link.Awake (k : Link) : Prop where
  power : k.power = .awake
  noErase : k.erasing = none
  notWaking : ∀ o since, k.op = some o → o.stage ≠ .waking since

theorem Link.Awake.coherent {k : Link} (awake : k.Awake) : k.Coherent := by
  obtain ⟨power, noErase, notWaking⟩ := awake
  refine ⟨fun h => ?_, ?_, fun e he => ?_, fun e he => ?_, fun _ h => ?_⟩
  · rw [power] at h; exact nomatch h
  · rw [power]
    exact iff_of_false nofun fun ⟨o, since, ho, h⟩ => notWaking o since ho h
  · rw [noErase] at he; exact nomatch he
  · rw [noErase] at he; exact nomatch he
  · rw [Link.suspended, noErase] at h; exact nomatch h

section
variable {k : Link} (law : k.Coherent) {o : LinkOp} (ho : k.op = some o)
include law ho

/-- An operation past its wake has an awake flash (R125, R128). -/
theorem Link.Coherent.power_of_op (notWaking : ∀ since, o.stage ≠ .waking since) : k.power = .awake := by
  have notAsleep : k.power.needsWake ≠ true := fun h => by simp [(law.asleep h).1] at ho
  have notWake : k.power ≠ .waking := fun h => by
    obtain ⟨x, since, hx, stage⟩ := law.waking.mp h
    obtain rfl := Option.some.inj (ho.symm.trans hx)
    exact notWaking since stage
  cases h : k.power <;> simp [h, PowerState.needsWake] at notAsleep notWake ⊢

/-- Only a polled erase and a host read run have an erase under way (R119, R120). -/
theorem Link.Coherent.noErase_of_op (notErase : ∀ p since, o.op = .erase p → o.stage ≠ .polling since)
    (notRun : ∀ r a, o.op = .hostRun r a → o.stage ≠ .reading) : k.erasing = none := by
  by_contra under
  obtain ⟨e, he⟩ := Option.ne_none_iff_exists'.mp under
  by_cases h : e.progress = .suspended
  · rcases law.suspended e he h with idle | ⟨x, r, a, hx, op, stage⟩
    · simp [idle] at ho
    · obtain rfl := Option.some.inj (ho.symm.trans hx)
      exact notRun r a op stage
  · obtain ⟨x, since, hx, -, op, stage⟩ := law.running e he h
    obtain rfl := Option.some.inj (ho.symm.trans hx)
    exact notErase _ since op stage

/-- Such an operation ended or moved on leaves an awake link. -/
theorem Link.Coherent.awake_of_op (notWaking : ∀ since, o.stage ≠ .waking since)
    (notErase : ∀ p since, o.op = .erase p → o.stage ≠ .polling since)
    (notRun : ∀ r a, o.op = .hostRun r a → o.stage ≠ .reading) (x : Option LinkOp)
    (next : ∀ y since, x = some y → y.stage ≠ .waking since) : ({ k with op := x } : Link).Awake :=
  ⟨law.power_of_op ho notWaking, law.noErase_of_op ho notErase notRun, next⟩

end

/-- K speaks of no request below the host's level, and is kept by the request of a host read run. -/
structure Link.Kept (K : Link → Prop) : Prop where
  requests : ∀ {k : Link} (r : Requests), r.hostRead = k.requests.hostRead → K k → K { k with requests := r }
  requestRun : ∀ {s : State} (r : Run), K s.link → K (s.requestRun r).link

theorem State.trySuspend_coherent (s : State) (law : s.link.Coherent) : s.trySuspend.link.Coherent := by
  unfold State.trySuspend
  split
  case isFalse => exact law
  next may =>
    have guard := may.2
    unfold State.guardPassed at guard
    split at guard
    · next user p since e ho he =>
      rw [Bool.and_eq_true, beq_iff_eq] at guard
      obtain ⟨x, since', hx, sameUser, op, stage⟩ := law.running e he (by rw [guard.1]; exact nofun)
      have power := law.power_of_op ho nofun
      have after : s.suspendErase.link =
          { s.link with
            erasing := some { e with accrued := e.runningTime s.now, progress := .suspending s.now }
            requests :=
              { s.link.requests with hostRead := s.link.requests.hostRead.map fun r => { r with committed := true } } } := by
        rw [State.suspendErase, he]
        rfl
      rw [after]
      refine ⟨fun h => ?_, law.waking, ?_, ?_, fun h => ?_⟩
      · rw [power] at h; exact nomatch h
      · rintro _ ⟨⟩ h; exact nomatch h
      · rintro _ ⟨⟩ -; exact ⟨x, since', hx, sameUser, op, stage⟩
      · have h : s.link.op = none := h
        rw [ho] at h; exact nomatch h
    · exact nomatch guard

theorem Link.kept_coherent : Link.Kept Link.Coherent where
  requests r same law := ⟨law.asleep, law.waking, law.suspended, law.running, fun idle suspended =>
    same ▸ law.served idle suspended⟩
  requestRun := fun {s} r law => by
    unfold State.requestRun
    split
    · exact law
    · refine State.trySuspend_coherent _ ?_
      exact ⟨law.asleep, law.waking, law.suspended, law.running, fun idle suspended => ⟨rfl, (law.served idle suspended).2⟩⟩

theorem Link.kept_awake : Link.Kept Link.Awake where
  requests r _ awake := ⟨awake.power, awake.noErase, awake.notWaking⟩
  requestRun := fun {s} r awake => by
    have noErase : ∀ t : State, t.link.erasing = none → t.trySuspend = t := fun t h => by
      simp only [State.trySuspend, State.suspendErase, h, ite_self]
    unfold State.requestRun
    split
    · exact awake
    · rw [noErase _ (by exact awake.noErase)]
      exact ⟨awake.power, awake.noErase, awake.notWaking⟩

end Sys2Proof.Machine
end

section
namespace Sys2Proof.Machine

/-! ## Link operations begun -/

section
variable (s : State) (user : LinkUser) (o : FlashOp)

/-- On an awake flash with no erase under way the first command of any operation but a wake leaves the link awake (R109). -/
theorem State.firstCommand_awake (power : s.link.power = .awake) (noErase : s.link.erasing = none) (notWake : o ≠ .wake) :
    (s.firstCommand user o).link.Awake := by
  have begun : ∀ (t : State) stage, t.link.power = .awake → t.link.erasing = none → (∀ since, stage ≠ .waking since) →
      (t.setOp user o stage).link.Awake := fun t stage power noErase notWaking =>
    ⟨power, noErase, by rintro _ since ⟨⟩; exact notWaking since⟩
  have closed : s.closeStream.link.power = .awake ∧ s.closeStream.link.erasing = none := by
    rw [State.closeStream_eq]; exact ⟨power, noErase⟩
  cases o with
  | wake => exact absurd rfl notWake
  | hostRun run addr =>
    simp only [State.firstCommand]
    split
    · exact begun _ _ power noErase nofun
    · exact begun _ _ closed.1 closed.2 nofun
  | _ => exact begun _ _ closed.1 closed.2 nofun

/-- The same operation with its wake passed over, since the flash needs none (R128). -/
theorem State.startOp_keeps_awake (awake : s.link.Awake) (notWake : o ≠ .wake) : (s.startOp user o).link.Awake := by
  have ready : s.startOp user o = s.firstCommand user o := by simp [State.startOp, awake.power, PowerState.needsWake]
  rw [ready]
  exact s.firstCommand_awake user o awake.power awake.noErase notWake

/-- POWER_UP issued: the operation is in its wake interval (R128). -/
theorem State.wakeBegun_coherent (idle : s.link.erasing = none) :
    (((s.closeStream.drive [.powerUp]).withPower .waking).setOp user o (.waking s.now)).link.Coherent := by
  have noErase : s.closeStream.link.erasing = none := by rw [State.closeStream_eq]; exact idle
  refine ⟨nofun, iff_of_true rfl ⟨_, _, rfl, rfl⟩, fun e he => ?_, fun e he => ?_, nofun⟩
  · have he : s.closeStream.link.erasing = some e := he
    rw [noErase] at he; exact nomatch he
  · have he : s.closeStream.link.erasing = some e := he
    rw [noErase] at he; exact nomatch he

/-- An operation begun on a link with none in progress and no erase under way (R116, R128). -/
theorem State.startOp_coherent (noErase : s.link.erasing = none) (notWaking : s.link.power ≠ .waking) :
    (s.startOp user o).link.Coherent := by
  unfold State.startOp
  split
  · exact s.wakeBegun_coherent user o noErase
  · next direct =>
    by_cases wake : o = .wake
    · rw [wake]
      exact s.wakeBegun_coherent user .wake noErase
    · have power : s.link.power = .awake := by
        cases h : s.link.power <;> simp [h, wake, PowerState.needsWake] at direct notWaking ⊢
      exact (s.firstCommand_awake user o power noErase wake).coherent

/-- A host read run begun within a suspension (R120). -/
theorem State.startOp_run_coherent (run : Run) (addr : Nat) (power : s.link.power = .awake)
    (suspended : ∀ e, s.link.erasing = some e → e.progress = .suspended) :
    (s.startOp user (.hostRun run addr)).link.Coherent := by
  have begun : ∀ t : State, t.link.power = .awake → t.link.erasing = s.link.erasing →
      (t.setOp user (.hostRun run addr) .reading).link.Coherent := by
    intro t power' same
    refine ⟨fun h => ?_, ?_, fun e he h => .inr ⟨_, run, addr, rfl, rfl, rfl⟩, fun e he h => ?_, nofun⟩
    · have h : t.link.power.needsWake = true := h
      rw [power'] at h; exact nomatch h
    · refine iff_of_false (fun h => ?_) (by rintro ⟨_, _, ⟨⟩, h⟩; exact nomatch h)
      have h : t.link.power = .waking := h
      rw [power'] at h; exact nomatch h
    · exact absurd (suspended e (same ▸ he)) h
  have ready : s.startOp user (.hostRun run addr) = s.firstCommand user (.hostRun run addr) := by
    simp [State.startOp, power, PowerState.needsWake]
  rw [ready, State.firstCommand]
  split
  · exact begun _ power rfl
  · exact begun _ (by rw [State.closeStream_eq]; exact power) (by rw [State.closeStream_eq]; rfl)

end

/-! ## What holds within a step out of reset -/

/-- Out of reset, with the laws of mode and port, and of the link what K says. -/
structure State.Steady (K : Link → Prop) (s : State) : Prop where
  running : s.inReset = false
  mode : s.ModeLaw
  port : s.PortLaw
  link : K s.link

section
variable {K : Link → Prop}

/-- A change of none of the fields that it speaks of. -/
theorem State.Steady.congr {K' : Link → Prop} {s t : State} (steady : s.Steady K) (ctl : t.ctl = s.ctl) (port : t.port = s.port)
    (waiting : t.staging.waiting = s.staging.waiting) (link : K' t.link) : t.Steady K' where
  running := by rw [State.inReset, ctl]; exact steady.running
  mode := steady.mode.congr ctl
  port := steady.port.congr port waiting (by rw [ctl]) (by rw [ctl])
  link := link

theorem State.Steady.coherent {s : State} (steady : s.Steady Link.Awake) : s.Steady Link.Coherent :=
  ⟨steady.running, steady.mode, steady.port, steady.link.coherent⟩

/-! ### The changes of the blocks -/

theorem Staging.returnSlot_waiting (g : Staging) (i : Nat) : (g.returnSlot i).waiting = g.waiting := by
  unfold Staging.returnSlot
  split
  · exact g.absorb_waiting i _
  · rfl

theorem State.abandonJob_waiting (s : State) : s.abandonJob.staging.waiting = s.staging.waiting := by
  cases hj : s.engine.job with
  | none => simp [State.abandonJob, hj]
  | some j =>
    rw [s.abandonJob_eq j hj]
    exact Staging.foldl_frame Staging.waiting Staging.returnSlot Staging.returnSlot_waiting j.slots s.staging

theorem State.setMode_link_kept (keeps : Link.Kept K) {s : State} (h : K s.link) (m : Mode) : K (s.setMode m).link := by
  simp only [State.setMode]
  split
  · rw [State.withdrawErase_eq, State.failWaiting_link]
    exact keeps.requests _ rfl h
  · exact h

/-- A change of mode out of reset whose new mode agrees with latch, power warning and mount. -/
theorem State.Steady.setMode (keeps : Link.Kept K) {s : State} (running : s.inReset = false) (port : s.PortLaw) (link : K s.link)
    (m : Mode) (law : (s.withCtl { s.ctl with mode := m }).ModeLaw) (stays : s.ctl.mode.isMount = true → m.isMount = true) :
    (s.setMode m).Steady K where
  running := by rw [State.inReset, State.setMode_ctl]; exact running
  mode := law.congr (s.setMode_ctl m)
  port := port.setMode m stays
  link := State.setMode_link_kept keeps link m

theorem State.Steady.setLatch (keeps : Link.Kept K) {s : State} (steady : s.Steady K) : s.setLatch.Steady K := by
  obtain ⟨running, law, port, link⟩ := id steady
  simp only [State.setLatch]
  split
  · exact steady
  · have latched : (s.withCtl { s.ctl with degraded := true }).PortLaw := port.congr rfl rfl rfl rfl
    have noMount := law.noMount
    have stays : s.ctl.mode ≠ .ready ∧ s.ctl.mode ≠ .drain → (s.withCtl { s.ctl with degraded := true }).Steady K :=
      fun other => ⟨running, ⟨fun _ => other, law.deasserted, law.asserted, law.mount⟩, latched, link⟩
    split
    · next mode =>
      have mode : s.ctl.mode = .ready := mode
      refine State.Steady.setMode keeps (by exact running) latched (by exact link) _
        ⟨fun _ => ⟨nofun, nofun⟩, fun _ => law.deasserted (.inl mode), fun h => h.elim nofun nofun, fun h => ?_⟩ (by simp [mode, Mode.isMount])
      exact absurd h (by simpa using noMount (by rw [mode]; rfl))
    · next mode =>
      have mode : s.ctl.mode = .drain := mode
      refine State.Steady.setMode keeps (by exact running) latched (by exact link) _
        ⟨fun _ => ⟨nofun, nofun⟩, fun h => h.elim nofun nofun, fun _ => law.asserted (.inl mode), fun h => ?_⟩ (by simp [mode, Mode.isMount])
      exact absurd h (by simpa using noMount (by rw [mode]; rfl))
    all_goals
      next mode =>
        have mode : s.ctl.mode = _ := mode
        exact stays (by rw [mode]; exact ⟨nofun, nofun⟩)

theorem State.Steady.drainTest (keeps : Link.Kept K) {s : State} (steady : s.Steady K) : s.drainTest.Steady K := by
  obtain ⟨running, law, port, link⟩ := id steady
  unfold State.drainTest
  split
  · next drained =>
    obtain ⟨mode, -⟩ := drained
    refine State.Steady.setMode keeps running port link _ ⟨fun _ => ⟨nofun, nofun⟩, fun h => h.elim nofun nofun,
      fun _ => law.asserted (.inl mode), fun h => ?_⟩ (by simp [mode, Mode.isMount])
    exact absurd h (by simpa using law.noMount (by rw [mode]; rfl))
  · exact steady

/-- The blocks' changes keep the laws of mode and port, and what K says of the link. -/
theorem Link.Kept.blocks (keeps : Link.Kept K) : KeptByBlocks (State.Steady K) where
  tables _ h := h.congr rfl rfl rfl h.link
  pool _ h := h.congr rfl rfl rfl h.link
  journal _ h := h.congr rfl rfl rfl h.link
  workPage _ h := h.congr rfl rfl rfl h.link
  requests r same h := h.congr rfl rfl rfl (keeps.requests r same h.link)
  job _ _ h := h.congr rfl rfl rfl h.link
  taken _ h := h.congr rfl rfl (Staging.take_waiting _ _) h.link
  jobFreed _ _ _ h := h.congr rfl rfl (Staging.freeSlots_waiting _ _) h.link
  jobDropped _ _ h := h.congr rfl rfl rfl h.link
  abandonJob h := h.congr (by simp) (by simp) (State.abandonJob_waiting _) (by simpa using h.link)
  setLatch h := h.setLatch keeps
  drainTest h := h.drainTest keeps

end

/-! ### A cycle decided -/

/-- A sealed slot leaves the waiting write alone (R28). -/
theorem Staging.sealSlot_keeps_waiting (g : Staging) (i : Nat) : (g.sealSlot i).waiting = g.waiting := by
  unfold Staging.sealSlot
  split
  · simp [Staging.setSlot]
  · rfl

theorem State.withStagingReport_staging (s : State) (g : Staging) : (s.withStagingReport g).staging = g := by
  rw [State.withStagingReport_eq]

theorem State.sealAll_waiting (s : State) : s.sealAll.staging.waiting = s.staging.waiting := by
  rw [State.sealAll, State.withStagingReport_staging]
  exact Staging.foldl_frame Staging.waiting Staging.sealSlot Staging.sealSlot_keeps_waiting _ _

theorem State.pressureSeal_waiting (s : State) : s.pressureSeal.staging.waiting = s.staging.waiting := by
  unfold State.pressureSeal
  split
  · split
    · rw [State.withStagingReport_staging]
      exact Staging.sealSlot_keeps_waiting _ _
    · rfl
  · rfl

section
variable {s : State} {c : Cycle} (holding : s.port.Holding c) (noWrite : s.staging.waiting = none)
include holding noWrite

/-- A write decided in READY: its cycle is answered, or waits with it (R22, R23, R25, R143). -/
theorem State.decideWrite_portLaw (w : PageWrite) (ready : s.ctl.mode = .ready) : (s.decideWrite w).PortLaw := by
  unfold State.decideWrite
  split
  · exact holding.answered [] rfl noWrite
  · split
    · refine holding.answered [] ?_ ?_
      · rw [State.answer, State.withPort_port, State.allocateFor_port]
        simp
      · rw [State.answer_staging, State.allocateFor_eq, State.pressureSeal_waiting]
        exact noWrite
    · refine holding.holdsOn { c with cond := .writeWaiting } rfl ?_ rfl (fun _ => ready) nofun
      rw [State.withPort_port, HostPort.setCond, holding.cycle]
      rfl

theorem State.presentRead_portLaw : (s.presentRead c).PortLaw := by
  simp only [State.presentRead]
  split
  · exact holding.answered _ rfl noWrite
  · refine holding.holdsOn { c with cond := .readWaiting, taken := s.takenBytes c } rfl (by simp) ?_ nofun nofun
    rw [State.requestRun_staging, State.withPort_staging, noWrite]
    rfl

/-- The checks on a cycle held for the mount, or just opened: answered, refused, or held in the condition that fits the mode (R137
to R140). -/
theorem State.applyChecks_portLaw (cond : c.cond = .heldForMount) : s.applyChecks.PortLaw := by
  have refused : s.errorTerminate.PortLaw := holding.errorTerminated rfl noWrite
  have answered : (s.answer []).PortLaw := holding.answered [] rfl noWrite
  have presented := State.presentRead_portLaw holding noWrite
  have held : s.ctl.mode.isMount = true → s.PortLaw := fun mount =>
    holding.holdsOn c (by rw [cond]; rfl) (by rw [← holding.cycle]) (by rw [noWrite, cond]; rfl)
      (fun h => by rw [cond] at h; exact nomatch h) fun _ => mount
  unfold State.applyChecks
  rw [holding.cycle]
  cases mode : s.ctl.mode with
  | mounting => exact held (by rw [mode]; rfl)
  | formatting => exact held (by rw [mode]; rfl)
  | halted => exact refused
  | fault => exact refused
  | ready =>
    simp only
    split
    · exact answered
    · split
      · exact presented
      · unfold State.checkWrite
        split_ifs
        · exact refused
        · exact refused
        · exact State.decideWrite_portLaw holding noWrite _ mode
  | readOnly | drain =>
    simp only
    split
    · exact refused
    · split
      · exact answered
      · exact presented

end

/-- The checks can only ask for a host read run (R37, R117). -/
theorem State.applyChecks_link_kept {K : Link → Prop} (keeps : Link.Kept K) {s : State} (h : K s.link) :
    K s.applyChecks.link := by
  have presented : ∀ c, K (s.presentRead c).link := fun c => by
    simp only [State.presentRead]
    split
    · simpa using h
    · exact keeps.requestRun _ h
  have refused : K s.errorTerminate.link := h
  have answered : K (s.answer []).link := h
  unfold State.applyChecks
  split
  · exact h
  · split
    · exact h
    · exact h
    · exact refused
    · exact refused
    · split
      · exact answered
      · split
        · exact presented _
        · rw [State.checkWrite_link]
          exact h
    all_goals
      split
      · exact refused
      · split
        · exact answered
        · exact presented _

end Sys2Proof.Machine
end

section
namespace Sys2Proof.Machine

/-! ### The changes that the ends of link operations lead to -/

theorem State.enterFault_ctl_eq (s : State) :
    s.enterFault.ctl = { s.ctl with mode := .fault, mount := none } := by
  simp [State.enterFault]

/-- The entry to FAULT on an awake flash (R166, R147). -/
theorem State.enterFault_steady (s : State) (running : s.inReset = false) (law : s.PortLaw)
    (power : s.link.power = .awake) : s.enterFault.Steady Link.Awake where
  running := by rw [State.inReset, State.enterFault_ctl_eq]; exact running
  mode := by
    constructor <;> rw [State.enterFault_ctl_eq]
    case degraded => exact fun _ => ⟨nofun, nofun⟩
    case deasserted => exact fun h => h.elim nofun nofun
    case asserted => exact fun h => h.elim nofun nofun
    case mount => exact nofun
  port := by
    have wide : s.enterFault.ctl.wide = s.ctl.wide := by rw [State.enterFault_ctl_eq]
    have port : s.enterFault.port = (s.closeStream.failHeldCycle).port := rfl
    -- A cycle that is not held stands as it is, and no write waits for it.
    have stands : (∀ c, s.port.cycle = some c → c.cond.held = false) → s.enterFault.port = s.port →
        s.enterFault.PortLaw := by
      intro notHeld same
      obtain ⟨h1, h2, h3, h4, -, -, -⟩ := law
      have none_of : ∀ cond : CycleCond, cond.held = true → (s.port.cycle.any fun c => c.cond == cond) = false := by
        intro cond held
        cases hc : s.port.cycle with
        | none => rfl
        | some c =>
          have released := notHeld c hc
          refine beq_eq_false_iff_ne.mpr ?_
          rintro rfl
          rw [held] at released
          exact nomatch released
      refine ⟨by rw [same]; exact h1, by rw [same]; exact h2, by rw [same]; exact h3, by rw [same, wide]; exact h4, ?_, nofun,
        fun h => ?_⟩
      · rw [same, none_of _ rfl]; rfl
      · rw [same, none_of _ rfl] at h; exact nomatch h
    cases hc : s.port.cycle with
    | none => exact stands (by rw [hc]; exact nofun) (by rw [port]; simp [State.failHeldCycle, hc])
    | some c =>
      cases held : c.cond.held with
      | false =>
        refine stands (fun x hx => ?_) (by rw [port]; simp [State.failHeldCycle, hc, held])
        obtain rfl := Option.some.inj (hc.symm.trans hx)
        exact held
      | true =>
        refine (law.holding hc held).errorTerminated ?_ rfl
        rw [port, wide]
        simp [State.failHeldCycle, hc, held, State.errorTerminate]
  link :=
    { power := by
        show s.closeStream.failHeldCycle.link.power = _
        rw [State.failHeldCycle_link, State.closeStream_eq]
        exact power
      noErase := rfl
      notWaking := nofun }

/-- INSTALL and EVALUATE set the latch in a mode that is neither READY nor DRAIN (R177). -/
theorem State.Steady.install {s : State} (steady : s.Steady Link.Awake) (m : MountRecord) (r : Roles)
    (formatted openingFailed : Bool) (under : s.ctl.mount.isSome = true) :
    (s.install m r formatted openingFailed).Steady Link.Awake := by
  obtain ⟨running, law, port, link⟩ := steady
  have mode := law.mount under
  have other : s.ctl.mode ≠ .ready ∧ s.ctl.mode ≠ .drain := by
    constructor <;> intro h <;> rw [h] at mode <;> exact nomatch mode
  simp only [State.install]
  refine ⟨?_, ?_, ?_, State.startOp_keeps_awake _ _ _ (by exact link) nofun⟩
  · rw [State.inReset, State.startOp_ctl]; exact running
  · constructor <;> rw [State.startOp_ctl]
    case degraded => exact fun _ => other
    case deasserted => exact law.deasserted
    case asserted => exact law.asserted
    case mount => exact fun _ => mode
  · exact port.congr (by simp) (by simp) (by simp) (by simp)

/-- The first mode of the run agrees with the latch and the power warning (R161). -/
theorem State.firstMode_modeLaw (s t : State) (ctl : t.ctl = { s.ctl with mode := s.ctl.firstMode, mount := none }) :
    t.ModeLaw := by
  constructor <;> rw [ctl] <;> simp only [ModeControl.firstMode]
  case mount => exact nofun
  all_goals cases s.ctl.degraded <;> cases s.ctl.powerWarning <;> simp

/-- RECORD ended: a cycle held for the mount is checked in the first mode (R178, R161, R138). -/
theorem State.Steady.recordRead {s : State} (steady : s.Steady Link.Awake) (bytes : List Byte)
    (under : s.ctl.mount.isSome = true) : (s.recordRead bytes).Steady Link.Awake := by
  obtain ⟨running, law, port, link⟩ := steady
  have mode := law.mount under
  have noWrite : s.staging.waiting = none := port.noWrite fun ready => by simp [ready, Mode.isMount] at mode
  apply State.Steady.drainTest Link.kept_awake
  generalize ht : (s.withValues (decodeRecord bytes)).withCtl { s.ctl with mode := s.ctl.firstMode, mount := none } = t
  obtain ⟨ctl, samePort, sameStaging, sameLink⟩ :
      t.ctl = { s.ctl with mode := s.ctl.firstMode, mount := none } ∧ t.port = s.port ∧ t.staging = s.staging ∧
        t.link = s.link := by
    rw [← ht]; exact ⟨rfl, rfl, rfl, rfl⟩
  have begun : t.inReset = false ∧ t.ModeLaw := ⟨by rw [State.inReset, ctl]; exact running, s.firstMode_modeLaw t ctl⟩
  -- With no cycle held for the mount the port's law does not turn on the mode.
  have stands : (s.port.cycle.any fun c => c.cond == .heldForMount) = false → t.Steady Link.Awake := by
    intro notHeld
    obtain ⟨h1, h2, h3, h4, h5, -, -⟩ := port
    refine ⟨begun.1, begun.2, ⟨?_, ?_, ?_, ?_, ?_, ?_, ?_⟩, sameLink ▸ link⟩
    all_goals simp only [samePort, sameStaging]
    · exact h1
    · exact h2
    · exact h3
    · rw [ctl]; exact h4
    · exact h5
    · rw [noWrite]; exact nofun
    · rw [notHeld]; exact nofun
  unfold State.recheckHeld
  rw [samePort]
  split
  · next c hc =>
    split
    · next cond =>
      have holding : t.port.Holding c := samePort ▸ port.holding hc (by rw [cond]; rfl)
      refine ⟨by rw [State.inReset, State.applyChecks_ctl]; exact begun.1, begun.2.congr (by simp),
        State.applyChecks_portLaw holding (sameStaging ▸ noWrite) cond, ?_⟩
      exact State.applyChecks_link_kept Link.kept_awake (sameLink ▸ link)
    · next cond => exact stands (by rw [hc]; simpa using cond)
  · next hc => exact stands (by rw [hc]; rfl)

/-- What the end of a link operation leads to keeps the laws of mode and port, and the link awake. -/
theorem keptByEnds_steady : KeptByEnds (State.Steady Link.Awake) where
  toKeptByBlocks := Link.kept_awake.blocks
  startOp user o notWake h :=
    h.congr (by simp) (by simp) (by simp) (State.startOp_keeps_awake _ user o h.link notWake)
  enterFault h := State.enterFault_steady _ h.running h.port h.link.power
  mount m under h :=
    ⟨h.running, ⟨h.mode.degraded, h.mode.deasserted, h.mode.asserted, fun _ => h.mode.mount under⟩,
      h.port.congr rfl rfl rfl rfl, h.link⟩
  formatting under h := State.Steady.setMode Link.kept_awake h.running h.port h.link _
    ⟨fun _ => ⟨nofun, nofun⟩, fun h => h.elim nofun nofun, fun h => h.elim nofun nofun, fun _ => rfl⟩ fun _ => rfl
  install m r formatted openingFailed under h := h.install m r formatted openingFailed under
  recordRead bytes under h := h.recordRead bytes under

/-! ## The end of a step -/

/-- With nothing in line on a free link every outstanding request stands below a step that is due (R115). -/
theorem State.above_of_firstInLine_none (s : State) (none_first : s.firstInLine = none) (l : Level)
    (holds : s.link.requests.holds l = true) : ∃ k, k.above l = true ∧ s.dueAt k = true := by
  rw [s.firstInLine_eq] at none_first
  cases l <;> simp only [Requests.holds] at holds <;> simp only [holds] at none_first
  · exact nomatch none_first
  · split_ifs at none_first
  · split_ifs at none_first with _ _ due
    exact ⟨.commit, rfl, due⟩
  · split_ifs at none_first with _ _ due _ due'
    · exact ⟨.commit, rfl, due⟩
    · exact ⟨.eraseJournal, rfl, due'⟩

/-- Within a suspension only a host read run is granted (R120). -/
theorem State.award_of_suspended (s : State) (law : s.link.Coherent) (suspended : s.link.suspended = true) (l : Level)
    (h : s.award = some l) : l = .hostRead := by
  have idle := (s.award_holds l h).1
  have only := (law.served idle suspended).2
  unfold State.award at h
  rw [if_neg (by simp [idle])] at h
  split at h
  · exact only l h
  · split at h
    · exact (Option.some.inj h).symm
    · exact nomatch h

/-- The arbiter's decision in the terms of the link's record (R115, R117). -/
theorem State.arbitrate_link (s : State) : ∃ run, s.arbitrate.link =
    { s.link with granted := s.award, requests := { s.link.requests with hostRead := run } } ∧
      run.isSome = s.link.requests.hostRead.isSome ∧
      (s.award = some .hostRead → ∀ r, run = some r → r.committed = true) := by
  refine ⟨_, rfl, ?_, fun granted r hr => ?_⟩
  · split <;> simp
  · rw [if_pos granted] at hr
    obtain ⟨x, -, rfl⟩ := Option.map_eq_some_iff.mp hr
    rfl

theorem State.arbitrate_coherent (s : State) (law : s.link.Coherent) : s.arbitrate.link.Coherent := by
  obtain ⟨run, link, same, -⟩ := s.arbitrate_link
  rw [link]
  exact ⟨law.asleep, law.waking, law.suspended, law.running, fun idle suspended =>
    ⟨by simpa [same] using (law.served idle suspended).1, s.award_of_suspended law suspended⟩⟩

/-- The end of a step gives the link its laws (R115, R117, R120). -/
theorem State.closeStep_linkLaw (s : State) (law : s.link.Coherent) : s.closeStep.LinkLaw := by
  obtain ⟨run, arbitrated, sameRun, committed⟩ := s.arbitrate_link
  obtain ⟨doze, link⟩ : ∃ doze, s.closeStep.link =
      { s.link with granted := s.award, requests := { s.link.requests with hostRead := run }, doze := doze } := by
    refine ⟨if s.arbitrate.mayDoze then some (s.arbitrate.link.doze.getD s.arbitrate.now) else none, ?_⟩
    show ({ s.arbitrate.link with doze := _ } : Link) = _
    rw [arbitrated]
  have holds : ∀ l, s.closeStep.link.requests.holds l = s.link.requests.holds l := fun l => by
    rw [link]; cases l <;> simp [Requests.holds, sameRun]
  have due : ∀ k, s.closeStep.dueAt k = s.dueAt k := fun k => by
    cases k <;> simp [State.dueAt, State.takeDue, State.mayTake]
  have sameSuspended : s.closeStep.link.suspended = s.link.suspended := by rw [link]; rfl
  constructor
  case asleep => rw [link]; exact law.asleep
  case waking => rw [link]; exact law.waking
  case suspended => rw [link]; exact law.suspended
  case running => rw [link]; exact law.running
  case granted =>
    intro l granted
    rw [holds, sameSuspended, link]
    rw [link] at granted
    obtain ⟨idle, outstanding⟩ := s.award_holds l granted
    exact ⟨idle, outstanding, fun suspended => s.award_of_suspended law suspended l granted⟩
  case committed =>
    rw [link]
    exact fun r granted hr => committed granted r hr
  case free =>
    intro idle free none_granted l outstanding
    rw [holds] at outstanding
    rw [sameSuspended] at free
    rw [link] at idle none_granted
    simp only [due]
    refine s.above_of_firstInLine_none ?_ l outstanding
    have idle : s.link.op = none := idle
    have none_granted : s.award = none := none_granted
    unfold State.award at none_granted
    rw [if_neg (by simp [idle])] at none_granted
    split at none_granted
    · next stands => rw [none_granted] at stands; exact nomatch stands
    · rwa [if_neg (by simp [free])] at none_granted
  case served =>
    intro idle suspended
    rw [sameSuspended] at suspended
    rw [link] at idle ⊢
    have idle : s.link.op = none := idle
    obtain ⟨outstanding, only⟩ := law.served idle suspended
    show s.award = _
    unfold State.award
    rw [if_neg (by simp [idle])]
    split
    · next stands =>
      cases granted : s.link.granted with
      | none => rw [granted] at stands; exact nomatch stands
      | some l => rw [only l granted]
    · rfl

/-- The end of a step brings the doze count into line (R126). -/
theorem State.closeStep_dozeLaw (s : State) : s.closeStep.DozeLaw := by
  have same : s.closeStep.mayDoze = s.arbitrate.mayDoze := rfl
  rw [State.DozeLaw, same]
  show (if s.arbitrate.mayDoze then some (s.arbitrate.link.doze.getD s.arbitrate.now) else none).isSome = _
  cases s.arbitrate.mayDoze <;> rfl

/-- A step whose changes keep the laws of mode, port and link ends with all the laws. -/
theorem State.Steady.sound {s : State} (steady : s.Steady Link.Coherent) : s.closeStep.Sound where
  reset := by
    have running : s.closeStep.inReset ≠ true := by
      rw [State.inReset, State.closeStep_ctl]; exact Bool.eq_false_iff.mp steady.running
    constructor <;> exact fun h => absurd h running
  mode := steady.mode.congr (by simp)
  port := steady.port.congr (by simp) (by simp) (by simp) (by simp)
  link := s.closeStep_linkLaw steady.link
  doze := s.closeStep_dozeLaw

end Sys2Proof.Machine
end

section
namespace Sys2Proof.Machine

/-! ## In reset -/

section
variable {s : State} (law : s.ResetLaw) (inReset : s.inReset = true)
include law inReset

/-- In reset the end of a step changes nothing: no request and no doze count (R108, R148). -/
theorem State.ResetLaw.closeStep_eq : s.closeStep = s := by
  have link := law.link inReset
  have same : ({ s.link with doze := none, granted := none } : Link) = s.link := by rw [link]; rfl
  rw [s.closeStep_quiet (by rw [link]; rfl) (by simp [State.mayDoze, law.mode inReset]), same]

/-- In reset no condition of a command that leaves reset alone holds (R148, R164). -/
theorem exec_inReset (i : Instr) (rstn : i ≠ .rstnAssert) (power : i ≠ .powerOn)
    (release : ∀ w f v p, i ≠ .resetRelease w f v p) (ends : ∀ w f v p, i ≠ .internalResetEnd w f v p) :
    exec i s = .next s := by
  have close := law.closeStep_eq inReset
  have mode := law.mode inReset
  have noCycle : s.port.cycle = none := by rw [law.port inReset]; rfl
  have noWrite : s.staging.waiting = none := by rw [law.staging inReset]; rfl
  have quiet : s.timer.quiet = none ∧ s.timer.hold = none := by rw [law.timer inReset]; exact ⟨rfl, rfl⟩
  have link := law.link inReset
  have idle : s.link.op = none := by rw [link]; rfl
  have noErase : s.link.erasing = none := by rw [link]; rfl
  have noGrant : s.arbitrate = s := by
    rw [State.arbitrate, s.award_quiet (by rw [link]; rfl), if_neg nofun]
    show s.withLink _ = s
    have same : ({ s.link with granted := none } : Link) = s.link := by rw [link]; rfl
    rw [same]; rfl
  have noRequest : s.beginRequest = s := by simp [State.beginRequest, law.journal inReset, Journal.reset]
  cases i
  case rstnAssert => exact absurd rfl rstn
  case powerOn => exact absurd rfl power
  case resetRelease => exact absurd rfl (release _ _ _ _)
  case internalResetEnd => exact absurd rfl (ends _ _ _ _)
  case hlatFall | dataPhaseStart => exact congrArg Host.Outcome.next (if_pos (.inl inReset))
  case powerWarningAssertion | powerWarningDeassertion => exact congrArg Host.Outcome.next (if_pos (.inl inReset))
  case flushRisingEdge => exact congrArg Host.Outcome.next (if_pos inReset)
  case dataPhaseEnd => simp [exec, execDataPhaseEnd, noCycle]
  case readyHoldLimitExpiry => simp [exec, execReadyHoldLimitExpiry, noCycle]
  case waitingWriteRedecide => simp [exec, execWaitingWriteRedecide, noWrite]
  case drainFinished => simp [exec, execDrainFinished, State.drainTest, mode, close]
  case haltedPowerDown => simp [exec, execHaltedPowerDown, State.mayPowerDown, mode]
  case quietCountExpiry => simp [exec, execQuietCountExpiry, countDue, quiet.1]
  case holdCountExpiry => simp [exec, execHoldCountExpiry, countDue, quiet.2]
  case dozeCountExpiry => simp [exec, execDozeCountExpiry, countDue, link, Link.reset]
  case progressGuardPasses => rw [exec, execProgressGuardPasses, s.trySuspend_idle idle, close]
  case suspendStatus => simp [exec, execSuspendStatus, noErase]
  case resumeStatus => simp [exec, execResumeStatus, idle, noErase]
  case suspendLatencyExpiry => simp [exec, execSuspendLatencyExpiry, State.suspendOverdue, idle, noErase]
  case busyLimitExpiry => simp [exec, execBusyLimitExpiry, State.busyOverdue, idle]
  case linkGrant =>
    have nothing : s.beginGranted = s := by simp [State.beginGranted, link, Link.reset]
    rw [exec, execLinkGrant, noGrant, nothing, close, ite_self]
  case wakeIntervalEnd => simp [exec, execWakeIntervalEnd, idle]
  case writeEnableStatus => simp [exec, execWriteEnableStatus, idle]
  case hostReadRunEnd => simp [exec, execHostReadRunEnd, idle]
  case pageReadEnd => simp [exec, execPageReadEnd, idle]
  case programEnd => simp [exec, execProgramEnd, idle]
  case readBackEnd => simp [exec, execReadBackEnd, idle]
  case eraseEnd => simp [exec, execEraseEnd, idle]
  case settleEnd => simp [exec, execSettleEnd, idle]
  case identifyEnd => simp [exec, execIdentifyEnd, idle]
  case mountReadEnd => simp [exec, execMountReadEnd, idle]
  case journalNextRequest => rw [exec, execJournalNextRequest, noRequest, close, ite_self]
  case commitTake => simp [exec, execCommitTake, State.takeDue, State.mayTake, mode]
  case eraseEngineRequest => simp [exec, execEraseEngineRequest, State.turnDue, mode]

/-- One cause of reset ended: with the other left reset goes on, else the mount begins with its wake (R164, R167, R169). -/
theorem State.ResetLaw.sampled (wide fmt svc pwrwarnn rstnLow internalReset : Bool) :
    (s.sampleAt wide fmt svc pwrwarnn rstnLow internalReset).closeStep.Sound := by
  by_cases left : rstnLow = true ∨ internalReset = true
  · rw [State.sampleAt_waits s wide fmt svc pwrwarnn rstnLow internalReset left]
    obtain ⟨port, staging, heldRun, timer, engine, tables, journal, pool, link, values, mode, degraded, mount⟩ := law
    have held : (s.withCtl { s.ctl.sampled wide fmt svc pwrwarnn with
        rstnLow := rstnLow, internalReset := internalReset }).ResetLaw :=
      ⟨fun _ => port inReset, fun _ => staging inReset, fun _ => heldRun inReset, fun _ => timer inReset, fun _ => engine inReset,
        fun _ => tables inReset, fun _ => journal inReset, fun _ => pool inReset, fun _ => link inReset, fun _ => values inReset,
        fun _ => mode inReset, fun _ => degraded inReset, fun _ => mount inReset⟩
    have goesOn : (rstnLow || internalReset) = true := by simpa using left
    rw [held.closeStep_eq goesOn]
    exact held.sound goesOn
  · obtain ⟨rfl, rfl⟩ : rstnLow = false ∧ internalReset = false := by simpa using left
    rw [State.sampleAt_begins]
    have mode := law.mode inReset
    refine State.Steady.sound ⟨by rw [State.inReset, State.startOp_ctl]; rfl, ?_, ?_, ?_⟩
    · constructor <;> rw [State.startOp_ctl] <;> simp [ModeControl.sampled, mode, law.degraded inReset, Mode.isMount]
    · refine .of_reset (by rw [State.startOp_port]; exact law.port inReset) ?_
      rw [State.startOp_staging]
      exact congrArg Staging.waiting (law.staging inReset)
    · exact State.startOp_coherent _ _ _ (congrArg Link.erasing (law.link inReset))
        fun waking => nomatch (congrArg Link.power (law.link inReset)).symm.trans waking

end

/-! ## A link with no operation in progress -/

theorem State.Sound.steady {s : State} (sound : s.Sound) (running : s.inReset = false) : s.Steady Link.Coherent where
  running := running
  mode := sound.mode
  port := sound.port
  link :=
    { asleep := sound.link.asleep
      waking := sound.link.waking
      suspended := sound.link.suspended
      running := sound.link.running
      served := fun idle suspended => by
        have granted := sound.link.served idle suspended
        exact ⟨(sound.link.granted _ granted).2.1, fun l hl => (Option.some.inj (granted.symm.trans hl)).symm⟩ }

section
variable {k : Link} (law : k.Coherent) (idle : k.op = none)
include law idle

theorem Link.Coherent.notWaking_of_idle : k.power ≠ .waking := fun waking => by
  obtain ⟨o, since, ho, -⟩ := law.waking.mp waking
  exact nomatch idle.symm.trans ho

/-- Between two operations an erase under way is suspended (R119). -/
theorem Link.Coherent.suspended_of_idle : ∀ e, k.erasing = some e → e.progress = .suspended := fun e he => by
  by_contra running
  obtain ⟨o, since, ho, -⟩ := law.running e he running
  exact nomatch idle.symm.trans ho

theorem Link.Coherent.noErase_of_free (free : k.suspended = false) : k.erasing = none := by
  cases he : k.erasing with
  | none => rfl
  | some e => simp [Link.suspended, he, law.suspended_of_idle idle e he] at free

/-- A suspension has an awake flash (R119, R128). -/
theorem Link.Coherent.power_of_suspended (e : EraseRecord) (he : k.erasing = some e) : k.power = .awake := by
  have notAsleep : k.power.needsWake ≠ true := fun h => by simp [(law.asleep h).2] at he
  have notWaking := law.notWaking_of_idle idle
  cases h : k.power <;> simp [h, PowerState.needsWake] at notAsleep notWaking ⊢

omit idle in
/-- A free link with another record of grants and requests. -/
theorem Link.Coherent.regranted (free : k.suspended = false) (granted : Option Level) (r : Requests) :
    ({ k with granted := granted, requests := r } : Link).Coherent :=
  ⟨law.asleep, law.waking, law.suspended, law.running, fun _ suspended => nomatch free.symm.trans suspended⟩

/-- A free link powered down (R127, R129). -/
theorem Link.Coherent.down (free : k.suspended = false) : ({ k with stream := none, power := .down } : Link).Coherent where
  asleep _ := ⟨idle, law.noErase_of_free idle free⟩
  waking := iff_of_false nofun fun ⟨_, _, ho, _⟩ => nomatch idle.symm.trans ho
  suspended := law.suspended
  running := law.running
  served _ suspended := nomatch free.symm.trans suspended

end

/-- A host read run begun on a link with no operation in progress, free or in a suspension, its request no longer outstanding (R116,
R120). -/
theorem State.startOp_run_of_idle (s : State) {k : Link} (law : k.Coherent) (idle : k.op = none) (power : s.link.power = k.power)
    (erasing : s.link.erasing = k.erasing) (user : LinkUser) (run : Run) (addr : Nat) :
    (s.startOp user (.hostRun run addr)).link.Coherent := by
  cases he : k.erasing with
  | none => exact s.startOp_coherent user _ (erasing.trans he) (power ▸ law.notWaking_of_idle idle)
  | some e =>
    exact s.startOp_run_coherent user run addr (power.trans (law.power_of_suspended idle e he))
      (erasing ▸ law.suspended_of_idle idle)

/-- A link between two operations, awake, with no grant but a host read run's, and with no erase under way but a suspended one: as
it stands right after a host read run or SUSPEND (R119, R120). -/
structure Link.Between (k : Link) : Prop where
  power : k.power = .awake
  idle : k.op = none
  granted : k.granted = none
  suspended : ∀ e, k.erasing = some e → e.progress = .suspended

/-- A suspension with no host read run to serve ends (R120). -/
theorem State.tryResume_coherent (s : State) (between : s.link.Between) : s.tryResume.link.Coherent := by
  obtain ⟨power, idle, granted, suspended⟩ := between
  unfold State.tryResume
  split
  · next e he _ _ =>
    rw [if_pos (suspended e he)]
    have power' : s.closeStream.link.power = .awake := by rw [State.closeStream_eq]; exact power
    refine ⟨fun h => ?_, iff_of_false (fun h => ?_) ?_, ?_, ?_, nofun⟩
    · have h : s.closeStream.link.power.needsWake = true := h
      rw [power'] at h; exact nomatch h
    · have h : s.closeStream.link.power = .waking := h
      rw [power'] at h; exact nomatch h
    · rintro ⟨_, _, ⟨⟩, h⟩; exact nomatch h
    · rintro _ ⟨⟩ h; exact nomatch h
    · rintro _ ⟨⟩ -; exact ⟨_, _, rfl, rfl, rfl, rfl⟩
  · next served =>
    refine ⟨fun h => ?_, ?_, fun _ _ _ => .inl idle, fun e he h => absurd (suspended e he) h, fun _ h => ⟨?_, ?_⟩⟩
    · rw [power] at h; exact nomatch h
    · rw [power]
      exact iff_of_false nofun fun ⟨_, _, ho, _⟩ => nomatch idle.symm.trans ho
    · by_contra unserved
      cases he : s.link.erasing with
      | none => simp [Link.suspended, he] at h
      | some e => exact served e he idle (by simpa using unserved)
    · rw [granted]; exact nofun

end Sys2Proof.Machine
end

section
namespace Sys2Proof.Machine

/-! ## The commands out of reset -/

/-- Out of reset the command keeps the laws. -/
def KeepsSound (i : Instr) : Prop :=
  ∀ s t : State, s.Sound → s.inReset = false → exec i s = .next t → t.Sound

/-! ### The host bus -/

theorem keepsSound_hlatFall (had : BitVec 16) (hau : BitVec 4) : KeepsSound (.hlatFall had hau) := by
  intro s t sound running done
  obtain rfl := Host.Outcome.next.inj done
  split
  · exact sound
  · obtain ⟨-, mode, port, link, doze⟩ := sound
    obtain ⟨h1, h2, h3, h4, h5, h6, h7⟩ := port
    obtain ⟨k1, k2, k3, k4, k5, k6, k7, k8⟩ := link
    have stands : s.inReset ≠ true := by simp [running]
    refine ⟨?_, mode.congr rfl, ⟨h1, h2, h3, h4, h5, h6, h7⟩, ⟨k1, k2, k3, k4, k5, k6, k7, k8⟩, doze⟩
    constructor <;> exact fun h => absurd h stands

/-- With no cycle no write waits, and the pins are at rest (R133, R145). -/
theorem State.PortLaw.released {s : State} (law : s.PortLaw) (idle : s.port.cycle = none) :
    s.staging.waiting = none ∧ s.port.hfailn = true ∧ s.port.hadLow = none ∧ s.port.hadHigh = none := by
  have undriven : ¬(s.port.hadLow.isSome = true ∨ s.port.hadHigh.isSome = true) := fun driven => by
    obtain ⟨c, hc, -⟩ := law.driven driven
    exact nomatch idle.symm.trans hc
  simp only [not_or, Option.not_isSome_iff_eq_none] at undriven
  have waiting := law.waiting
  have hfailn := law.hfailn
  rw [idle] at waiting hfailn
  exact ⟨by simpa using waiting, hfailn, undriven.1, undriven.2⟩

theorem keepsSound_dataPhaseStart (hdir hlanen : Bool) (had : BitVec 16) :
    KeepsSound (.dataPhaseStart hdir hlanen had) := by
  intro s t sound running done
  obtain rfl := Host.Outcome.next.inj done
  split
  · exact sound
  · next free =>
    obtain ⟨-, mode, port, link⟩ := sound.steady running
    have idle : s.port.cycle = none := by simpa using (not_or.mp free).2
    obtain ⟨noWrite, hfailn, low, high⟩ := port.released idle
    have holding : (s.opened (s.openCycle hdir hlanen had)).port.Holding (s.openCycle hdir hlanen had) :=
      ⟨rfl, rfl, hfailn, low, high⟩
    refine State.Steady.sound ⟨by rw [State.inReset, State.applyChecks_ctl]; exact running, mode.congr (by simp), ?_, ?_⟩
    · exact State.applyChecks_portLaw holding noWrite rfl
    · exact State.applyChecks_link_kept Link.kept_coherent (by exact link)

/-- A run that serves a suspension is committed, and so not withdrawn (R117, R120). -/
theorem State.endRun_coherent (s : State) (law : s.LinkLaw) (coherent : s.link.Coherent) : s.endRun.link.Coherent := by
  unfold State.endRun
  split
  · exact coherent
  · split
    · next r hr =>
      refine ⟨coherent.asleep, coherent.waking, coherent.suspended, coherent.running, fun idle suspended => ⟨?_, ?_⟩⟩
      · have committed := law.committed r (law.served idle suspended) hr
        show (if r.committed = true then some { r with discard := true } else none).isSome = true
        rw [if_pos committed]
        rfl
      · exact (coherent.served idle suspended).2
    · split
      · next o ho =>
        split
        · next r addr op =>
          have awake : s.link.power.needsWake ≠ true := fun h => nomatch (coherent.asleep h).1.symm.trans ho
          refine ⟨fun h => absurd h awake, coherent.waking.trans ?_, fun e he h => ?_, fun e he h => ?_, nofun⟩
          · constructor
            · rintro ⟨x, since, hx, stage⟩
              obtain rfl := Option.some.inj (ho.symm.trans hx)
              exact ⟨_, since, rfl, stage⟩
            · rintro ⟨_, since, ⟨⟩, stage⟩
              exact ⟨o, since, ho, stage⟩
          · rcases coherent.suspended e he h with idle | ⟨x, _, _, hx, -, stage⟩
            · exact nomatch idle.symm.trans ho
            · obtain rfl := Option.some.inj (ho.symm.trans hx)
              exact .inr ⟨_, _, _, rfl, rfl, stage⟩
          · obtain ⟨x, _, hx, -, erases, -⟩ := coherent.running e he h
            obtain rfl := Option.some.inj (ho.symm.trans hx)
            exact nomatch op.symm.trans erases
        · exact coherent
      · exact coherent

theorem State.endHeld_coherent (s : State) (law : s.LinkLaw) (coherent : s.link.Coherent) (cond : CycleCond) :
    (s.endHeld cond).link.Coherent := by
  cases cond with
  | readWaiting => exact s.endRun_coherent law coherent
  | heldForMount | writeWaiting | answered | answeredError => exact coherent

theorem State.PortLaw.noWrite_of_cond {s : State} (law : s.PortLaw) {c : Cycle} (hc : s.port.cycle = some c)
    (other : c.cond ≠ .writeWaiting) : s.staging.waiting = none := by
  have waiting := law.waiting
  rw [hc, Option.any_some, beq_eq_false_iff_ne.mpr other] at waiting
  simpa using waiting

/-- A write that waits for the cycle is withdrawn with it (R27, R141, R146). -/
theorem State.endHeld_waiting {s : State} (law : s.PortLaw) {c : Cycle} (hc : s.port.cycle = some c) :
    (s.endHeld c.cond).staging.waiting = none := by
  have noWrite := law.noWrite_of_cond hc
  cases cond : c.cond with
  | writeWaiting => rfl
  | readWaiting =>
    rw [State.endHeld, State.endRun_staging]
    exact noWrite (by rw [cond]; nofun)
  | heldForMount | answered | answeredError => exact noWrite (by rw [cond]; nofun)

theorem keepsSound_dataPhaseEnd : KeepsSound .dataPhaseEnd := by
  intro s t sound running done
  obtain rfl := Host.Outcome.next.inj done
  split
  · exact sound
  · next c hc =>
    obtain ⟨-, mode, port, link⟩ := sound.steady running
    refine State.Steady.sound ⟨?_, mode.congr (State.endHeld_ctl _ _), .of_released rfl (State.endHeld_waiting port hc), ?_⟩
    · rw [State.inReset, State.withPort_ctl, State.endHeld_ctl]; exact running
    · exact s.endHeld_coherent sound.link link c.cond

theorem keepsSound_readyHoldLimitExpiry : KeepsSound .readyHoldLimitExpiry := by
  intro s t sound running done
  obtain rfl := Host.Outcome.next.inj done
  split
  · exact sound
  · next c hc =>
    split
    · next due =>
      obtain ⟨-, mode, port, link⟩ := sound.steady running
      have holding : (s.endHeld c.cond).port.Holding c := by rw [State.endHeld_port]; exact port.holding hc due.1
      refine State.Steady.sound ⟨?_, mode.congr (by simp), holding.errorTerminated rfl ?_, ?_⟩
      · rw [State.inReset, State.errorTerminate_ctl, State.endHeld_ctl]; exact running
      · rw [State.errorTerminate_staging]; exact State.endHeld_waiting port hc
      · rw [State.errorTerminate_link]; exact s.endHeld_coherent sound.link link c.cond
    · exact sound

theorem keepsSound_waitingWriteRedecide : KeepsSound .waitingWriteRedecide := by
  intro s t sound running done
  obtain rfl := Host.Outcome.next.inj done
  split
  · exact sound
  · next w hw =>
    obtain ⟨-, mode, port, link⟩ := sound.steady running
    obtain ⟨c, holding⟩ := port.holding_of_waiting hw
    have ready := port.ready (by rw [hw]; rfl)
    refine State.Steady.sound ⟨by rw [State.inReset, State.decideWrite_ctl]; exact running, mode.congr (by simp), ?_, ?_⟩
    · exact State.decideWrite_portLaw (s := s.dropWaiting) holding rfl w ready
    · rw [State.decideWrite_link]; exact link

/-- A run's bytes handed over answer a read that waits for them, and no other cycle (R38, R144). -/
theorem State.PortLaw.handOver {s : State} (law : s.PortLaw) (bytes : List Byte) : (s.handOver bytes).PortLaw := by
  unfold State.handOver
  split
  · next c hc =>
    split
    · next cond =>
      exact (law.holding hc (by rw [cond]; rfl)).answered _ rfl (law.noWrite_of_cond hc (by rw [cond]; nofun))
    · exact law
  · exact law

/-- Between two operations no erase runs that a host read run could suspend (R118). -/
theorem State.requestRun_between (s : State) (between : s.link.Between) (r : Run) : (s.requestRun r).link.Between := by
  obtain ⟨power, idle, granted, suspended⟩ := between
  unfold State.requestRun
  split
  · exact ⟨power, idle, granted, suspended⟩
  · rw [State.trySuspend_idle _ (by exact idle)]
    exact ⟨power, idle, granted, suspended⟩

theorem keepsSound_hostReadRunEnd (bytes : List Byte) : KeepsSound (.hostReadRunEnd bytes) := by
  intro s t sound running done
  obtain rfl := Host.Outcome.next.inj done
  split
  · split
    · next run addr ho _ =>
      obtain ⟨-, mode, port, link⟩ := sound.steady running
      have between : (s.runOver ((addr + run.len) % flashBytes)).link.Between := by
        refine ⟨link.power_of_op ho nofun, rfl, ?_, fun e he => ?_⟩
        · by_contra made
          obtain ⟨l, granted⟩ := Option.ne_none_iff_exists'.mp made
          exact nomatch (sound.link.granted l granted).1.symm.trans ho
        · by_contra runs
          obtain ⟨o, _, ho', -, op, -⟩ := link.running e he runs
          obtain rfl := Option.some.inj (ho.symm.trans ho')
          exact nomatch op
      have ended : (s.runOver ((addr + run.len) % flashBytes)).Steady Link.Between :=
        ⟨running, mode.congr rfl, port.congr rfl rfl rfl rfl, between⟩
      have handed : (if run.discard then s.runOver ((addr + run.len) % flashBytes)
          else (s.runOver ((addr + run.len) % flashBytes)).handOver bytes).Steady Link.Between := by
        split
        · exact ended
        · refine ⟨?_, mode.congr (State.handOver_ctl _ _), ended.port.handOver bytes, ?_⟩
          · rw [State.inReset, State.handOver_ctl]; exact running
          · rw [State.handOver_link]; exact between
      have resumes : ∀ u : State, u.Steady Link.Between → u.tryResume.closeStep.Sound := fun u h =>
        (h.congr (by simp) (by simp) (by simp) (u.tryResume_coherent h.link)).sound
      have requests : ∀ (u : State) r, u.Steady Link.Between → (u.requestRun r).Steady Link.Between := fun u r h =>
        h.congr (by simp) (by simp) (by simp) (u.requestRun_between h.link r)
      refine resumes _ ?_
      split
      · exact requests _ _ (handed.congr rfl rfl rfl handed.link)
      · exact handed
    · exact sound
  · exact sound

end Sys2Proof.Machine
end

section
namespace Sys2Proof.Machine

/-! ### Seals and power -/

theorem State.Steady.sealAll {K : Link → Prop} {s : State} (steady : s.Steady K) : s.sealAll.Steady K :=
  steady.congr (by simp) (by simp) s.sealAll_waiting (by simpa using steady.link)

theorem keepsSound_flushRisingEdge : KeepsSound .flushRisingEdge := by
  intro s t sound running done
  obtain rfl := Host.Outcome.next.inj done
  split
  · exact sound
  · exact (sound.steady running).sealAll.sound

/-- Both counts expire alike (R153). -/
theorem State.Steady.sealStopped {s : State} (steady : s.Steady Link.Coherent) : (s.withTimer .stopped).sealAll.closeStep.Sound :=
  (State.Steady.sealAll (s := s.withTimer .stopped) (steady.congr rfl rfl rfl steady.link)).sound

theorem keepsSound_quietCountExpiry : KeepsSound .quietCountExpiry := by
  intro s t sound running done
  obtain rfl := Host.Outcome.next.inj done
  split
  · exact (sound.steady running).sealStopped
  · exact sound

theorem keepsSound_holdCountExpiry : KeepsSound .holdCountExpiry := by
  intro s t sound running done
  obtain rfl := Host.Outcome.next.inj done
  split
  · exact (sound.steady running).sealStopped
  · exact sound

theorem keepsSound_drainFinished : KeepsSound .drainFinished := by
  intro s t sound running done
  obtain rfl := Host.Outcome.next.inj done
  exact ((sound.steady running).drainTest Link.kept_coherent).sound

section
variable {s : State} (steady : s.Steady Link.Coherent) (level : Bool)
include steady

/-- The power-warning level noted, the mode as it stands (R155). -/
theorem State.Steady.warned (deasserted : s.ctl.mode = .ready ∨ s.ctl.mode = .readOnly → level = false)
    (asserted : s.ctl.mode = .drain ∨ s.ctl.mode = .halted → level = true) :
    (s.withCtl { s.ctl with powerWarning := level }).Steady Link.Coherent where
  running := steady.running
  mode := ⟨steady.mode.degraded, deasserted, asserted, steady.mode.mount⟩
  port := steady.port.congr rfl rfl rfl rfl
  link := steady.link

/-- The power-warning level noted, and with it the mode changed (R156, R158, R160). -/
theorem State.Steady.warnedTo (m : Mode) (noMount : s.ctl.mode.isMount = false)
    (degraded : s.ctl.degraded = true → m ≠ .ready ∧ m ≠ .drain)
    (deasserted : m = .ready ∨ m = .readOnly → level = false) (asserted : m = .drain ∨ m = .halted → level = true) :
    ((s.withCtl { s.ctl with powerWarning := level }).setMode m).Steady Link.Coherent := by
  refine State.Steady.setMode (s := s.withCtl { s.ctl with powerWarning := level }) Link.kept_coherent
    (by exact steady.running) (steady.port.congr rfl rfl rfl rfl)
    steady.link m ⟨degraded, deasserted, asserted, fun under => ?_⟩ fun mount => nomatch noMount.symm.trans mount
  exact nomatch (steady.mode.noMount noMount).symm.trans under

end

theorem keepsSound_powerWarningAssertion : KeepsSound .powerWarningAssertion := by
  intro s t sound running done
  obtain rfl := Host.Outcome.next.inj done
  split
  · exact sound
  · have steady := sound.steady running
    have noted : s.ctl.mode ≠ .ready → s.ctl.mode ≠ .readOnly →
        (s.withCtl { s.ctl with powerWarning := true }).Steady Link.Coherent := fun h k =>
      steady.warned true (fun mode => absurd mode (not_or.mpr ⟨h, k⟩)) fun _ => rfl
    apply State.Steady.sound
    split
    · next mode =>
      have mode : s.ctl.mode = .ready := mode
      have drains := steady.warnedTo true .drain (by rw [mode]; rfl) (fun h => absurd mode (steady.mode.degraded h).1)
        (fun h => h.elim nofun nofun) fun _ => rfl
      exact drains.sealAll.drainTest Link.kept_coherent
    · next mode =>
      have mode : s.ctl.mode = .readOnly := mode
      exact steady.warnedTo true .halted (by rw [mode]; rfl) (fun _ => ⟨nofun, nofun⟩)
        (fun h => h.elim nofun nofun) fun _ => rfl
    all_goals
      next mode =>
        have mode : s.ctl.mode = _ := mode
        exact noted (by rw [mode]; nofun) (by rw [mode]; nofun)

theorem keepsSound_powerWarningDeassertion : KeepsSound .powerWarningDeassertion := by
  intro s t sound running done
  obtain rfl := Host.Outcome.next.inj done
  split
  · exact sound
  · have steady := sound.steady running
    have noted : s.ctl.mode ≠ .drain → s.ctl.mode ≠ .halted →
        (s.withCtl { s.ctl with powerWarning := false }).Steady Link.Coherent := fun h k =>
      steady.warned false (fun _ => rfl) fun mode => absurd mode (not_or.mpr ⟨h, k⟩)
    have resumed : s.ctl.mode.isMount = false → ((s.withCtl { s.ctl with powerWarning := false }).setMode
        (if s.ctl.degraded then .readOnly else .ready)).Steady Link.Coherent := fun noMount =>
      steady.warnedTo false _ noMount (fun h => by rw [if_pos h]; exact ⟨nofun, nofun⟩) (fun _ => rfl)
        fun h => by cases hd : s.ctl.degraded <;> simp [hd] at h
    apply State.Steady.sound
    split
    · next mode =>
      have mode : s.ctl.mode = .drain := mode
      exact resumed (by rw [mode]; rfl)
    · next mode =>
      have mode : s.ctl.mode = .halted := mode
      exact resumed (by rw [mode]; rfl)
    all_goals
      next mode =>
        have mode : s.ctl.mode = _ := mode
        exact noted (by rw [mode]; nofun) (by rw [mode]; nofun)

/-- A free link powered down (R127, R129). -/
theorem State.Steady.powerDown {s : State} (steady : s.Steady Link.Coherent) (idle : s.link.op = none)
    (free : s.link.suspended = false) : s.powerDown.closeStep.Sound := by
  refine State.Steady.sound (steady.congr (by simp) (by simp) (by simp) ?_)
  rw [s.powerDown_eq]
  exact steady.link.down idle free

theorem keepsSound_haltedPowerDown : KeepsSound .haltedPowerDown := by
  intro s t sound running done
  obtain rfl := Host.Outcome.next.inj done
  split
  · next may =>
    simp only [State.mayPowerDown, Link.free, Bool.and_eq_true, Option.isNone_iff_eq_none, Bool.not_eq_true'] at may
    obtain ⟨⟨⟨-, idle, free⟩, -⟩, -⟩ := may
    exact (sound.steady running).powerDown idle free
  · exact sound

theorem keepsSound_dozeCountExpiry : KeepsSound .dozeCountExpiry := by
  intro s t sound running done
  obtain rfl := Host.Outcome.next.inj done
  split
  · next due =>
    have runs : s.link.doze.isSome = true := by
      cases h : s.link.doze with
      | none => rw [h] at due; exact nomatch due
      | some _ => rfl
    obtain ⟨-, -, -, -, -, -, -, -, idle, free, -, -⟩ := s.mayDoze_iff.mp (sound.doze.symm.trans runs)
    exact (sound.steady running).powerDown idle free
  · exact sound

/-! ### The blocks' requests -/

theorem keepsSound_journalNextRequest : KeepsSound .journalNextRequest := by
  intro s t sound running done
  obtain rfl := Host.Outcome.next.inj done
  split
  · exact (Link.kept_coherent.blocks.beginRequest (sound.steady running)).sound
  · exact sound

theorem keepsSound_commitTake : KeepsSound .commitTake := by
  intro s t sound running done
  obtain rfl := Host.Outcome.next.inj done
  split
  · exact (Link.kept_coherent.blocks.takeJob (sound.steady running)).sound
  · exact sound

theorem keepsSound_eraseEngineRequest : KeepsSound .eraseEngineRequest := by
  intro s t sound running done
  obtain rfl := Host.Outcome.next.inj done
  split
  · exact (Link.kept_coherent.blocks.lookForWork (sound.steady running)).sound
  · exact sound

/-! ### The arbiter's grant -/

section
variable {s : State} (steady : s.Steady Link.Coherent) (idle : s.link.op = none)
include steady idle

/-- An operation begun on a free link (R116). -/
theorem State.Steady.startOp (free : s.link.suspended = false) (user : LinkUser) (o : FlashOp) :
    (s.startOp user o).Steady Link.Coherent :=
  steady.congr (by simp) (by simp) (by simp)
    (s.startOp_coherent user o (steady.link.noErase_of_free idle free) (steady.link.notWaking_of_idle idle))

theorem State.Steady.grantCommit (free : s.link.suspended = false) (user : LinkUser) (o : FlashOp) :
    (s.grantCommit user o).Steady Link.Coherent := by
  have removed : (s.withRequests { s.link.requests with commit := none }).Steady Link.Coherent :=
    steady.congr rfl rfl rfl (steady.link.regranted free s.link.granted _)
  have begun := removed.startOp idle free user o
  simp only [State.grantCommit]
  split
  · unfold State.grantAllocationErase
    split
    · exact begun
    · exact Link.kept_coherent.blocks.requestTarget removed
  · exact begun

theorem State.Steady.grantErase (free : s.link.suspended = false) : s.grantErase.Steady Link.Coherent := by
  have turned : ∀ a, (s.withEraser a).Steady Link.Coherent := fun _ => steady.congr rfl rfl rfl steady.link
  have begun : ∀ a user o, ((s.withEraser a).startOp user o).Steady Link.Coherent := fun a user o =>
    (turned a).startOp idle free user o
  unfold State.grantErase
  split
  · exact turned _
  · split
    · exact begun _ _ _
    · exact begun _ _ _
    · exact turned _

/-- The granted request begun: within a suspension it is a host read run's (R115, R116, R120). -/
theorem State.Steady.beginGranted (holds : ∀ l, s.link.granted = some l → s.link.requests.holds l = true) :
    s.beginGranted.Steady Link.Coherent := by
  have free_of : ∀ l, s.link.granted = some l → l ≠ .hostRead → s.link.suspended = false := fun l granted below => by
    by_contra suspended
    exact below ((steady.link.served idle (by simpa using suspended)).2 l granted)
  have taken : ∀ r, s.link.suspended = false →
      ((s.withLink { s.link with granted := none }).withRequests r).Steady Link.Coherent := fun r free =>
    steady.congr rfl rfl rfl (steady.link.regranted free none r)
  simp only [State.beginGranted]
  split
  · exact steady
  · next granted =>
    split
    · refine steady.congr (by simp [State.grantRun]) (by simp [State.grantRun]) (by simp [State.grantRun]) ?_
      rw [State.grantRun]
      refine State.startOp_run_of_idle _ steady.link idle ?_ ?_ _ _ _ <;> rfl
    · next unserved =>
      have outstanding : s.link.requests.hostRead.isSome = true := holds _ granted
      rw [unserved] at outstanding
      exact nomatch outstanding
  · next granted =>
    have free := free_of _ granted nofun
    split
    · exact (taken s.link.requests free).grantCommit idle free _ _
    · exact taken s.link.requests free
  · next granted =>
    have free := free_of _ granted nofun
    split
    · exact (taken _ free).startOp idle free _ _
    · exact taken s.link.requests free
  · next granted =>
    have free := free_of _ granted nofun
    exact (taken _ free).grantErase idle free

end

theorem keepsSound_linkGrant : KeepsSound .linkGrant := by
  intro s t sound running done
  obtain rfl := Host.Outcome.next.inj done
  split
  · next idle =>
    have idle : s.link.op = none := by simpa using idle
    have steady := sound.steady running
    have arbitrated : s.arbitrate.Steady Link.Coherent := steady.congr rfl rfl rfl (s.arbitrate_coherent steady.link)
    refine (arbitrated.beginGranted idle fun l award => ?_).sound
    obtain ⟨run, link, same, -⟩ := s.arbitrate_link
    rw [link] at award ⊢
    have outstanding := (s.award_holds l award).2
    cases l <;> simpa [Requests.holds, same] using outstanding
  · exact sound

end Sys2Proof.Machine
end

section
namespace Sys2Proof.Machine

/-! ### The ends of link operations -/

section
variable {s : State} (steady : s.Steady Link.Coherent) {o : LinkOp} (ho : s.link.op = some o)
include steady ho

/-- The operation in progress ended, and no erase under way: the link is awake (R125, R128). -/
theorem State.Steady.ended (notWaking : ∀ since, o.stage ≠ .waking since)
    (notErase : ∀ p since, o.op = .erase p → o.stage ≠ .polling since)
    (notRun : ∀ r a, o.op = .hostRun r a → o.stage ≠ .reading) :
    (s.withOp none).Steady Link.Awake :=
  steady.congr rfl rfl rfl (steady.link.awake_of_op ho notWaking notErase notRun none nofun)

/-- An erase ended, with its record (R111, R119). -/
theorem State.Steady.eraseEnded (notWaking : ∀ since, o.stage ≠ .waking since) :
    ((s.withOp none).withErasing none).Steady Link.Awake :=
  steady.congr rfl rfl rfl ⟨steady.link.power_of_op ho notWaking, rfl, nofun⟩

/-- A link fault in an operation past its wake (R166). -/
theorem State.Steady.faulted (notWaking : ∀ since, o.stage ≠ .waking since) : s.enterFault.Steady Link.Coherent :=
  (s.enterFault_steady steady.running steady.port (steady.link.power_of_op ho notWaking)).coherent

/-- The operation goes on in another stage, polling or settling, with no erase under way. -/
theorem State.Steady.goesOn (notWaking : ∀ since, o.stage ≠ .waking since)
    (notErase : ∀ p since, o.op = .erase p → o.stage ≠ .polling since)
    (notRun : ∀ r a, o.op = .hostRun r a → o.stage ≠ .reading)
    (user : LinkUser) (f : FlashOp) (stage : OpStage) (past : ∀ since, stage ≠ .waking since) :
    (s.setOp user f stage).Steady Link.Coherent :=
  steady.congr rfl rfl rfl
    (steady.link.awake_of_op ho notWaking notErase notRun (some ⟨user, f, stage⟩)
      (by rintro _ since ⟨⟩; exact past since)).coherent

end

/-- Commands driven on the link. -/
theorem State.Steady.driven {K : Link → Prop} {s : State} (steady : s.Steady K) (es : List LinkEvent) : (s.drive es).Steady K :=
  steady.congr rfl rfl rfl steady.link

/-- The step of the mount record moved: the mode and the mount's presence stand. -/
theorem State.Steady.mountStep {s : State} (steady : s.Steady Link.Awake) (step : MountStep) :
    (s.mountStep step).Steady Link.Awake where
  running := steady.running
  mode := ⟨steady.mode.degraded, steady.mode.deasserted, steady.mode.asserted, fun under => steady.mode.mount
    (by simpa [State.mountStep] using under)⟩
  port := steady.port.congr rfl rfl rfl rfl
  link := steady.link

theorem keepsSound_pageReadEnd (bytes : List Byte) : KeepsSound (.pageReadEnd bytes) := by
  intro s t sound running done
  obtain rfl := Host.Outcome.next.inj done
  split
  · next ho =>
    split
    · exact (keptByEnds_steady.pageReadDone ((sound.steady running).ended ho nofun nofun nofun) bytes).coherent.sound
    · exact sound
  · exact sound

theorem keepsSound_programEnd (st : Byte) : KeepsSound (.programEnd st) := by
  intro s t sound running done
  obtain rfl := Host.Outcome.next.inj done
  split
  · next ho =>
    split
    · exact sound
    · exact (keptByEnds_steady.programOutcome ((sound.steady running).ended ho nofun nofun nofun) _ _).coherent.sound
  · exact sound

theorem keepsSound_readBackEnd (bytes : List Byte) : KeepsSound (.readBackEnd bytes) := by
  intro s t sound running done
  obtain rfl := Host.Outcome.next.inj done
  split
  · next ho =>
    split
    · exact (keptByEnds_steady.readBackOutcome ((sound.steady running).ended ho nofun nofun nofun) _ bytes).coherent.sound
    · exact sound
  · exact sound

theorem keepsSound_mountReadEnd (bytes : List Byte) : KeepsSound (.mountReadEnd bytes) := by
  intro s t sound running done
  obtain rfl := Host.Outcome.next.inj done
  split
  · next ho =>
    split
    · exact (keptByEnds_steady.mountReadDone ((sound.steady running).ended ho nofun nofun nofun) bytes).coherent.sound
    · exact sound
  · exact sound

theorem keepsSound_eraseEnd (st : Byte) : KeepsSound (.eraseEnd st) := by
  intro s t sound running done
  obtain rfl := Host.Outcome.next.inj done
  split
  · next ho _ =>
    split
    · exact (keptByEnds_steady.eraseOutcome ((sound.steady running).eraseEnded ho nofun) _ _ _).coherent.sound
    · exact sound
  · exact sound

theorem keepsSound_settleEnd (st : Byte) : KeepsSound (.settleEnd st) := by
  intro s t sound running done
  obtain rfl := Host.Outcome.next.inj done
  split
  · next ho =>
    have steady := sound.steady running
    split
    · exact sound
    · split
      · exact ((steady.driven _).goesOn ho nofun nofun nofun _ _ _ (by exact nofun)).sound
      · exact (keptByEnds_steady.startOp .mount .identify nofun ((steady.ended ho nofun nofun nofun).mountStep _)).coherent.sound
  · exact sound

theorem keepsSound_identifyEnd (b0 b1 b2 : Byte) : KeepsSound (.identifyEnd b0 b1 b2) := by
  intro s t sound running done
  obtain rfl := Host.Outcome.next.inj done
  split
  · next ho hm =>
    have steady := sound.steady running
    split
    · have under : (s.withOp none).ctl.mount.isSome = true := by rw [State.withOp_ctl, hm]; rfl
      exact (keptByEnds_steady.mountOp (steady.ended ho nofun nofun nofun) under _ _ (by exact nofun)).coherent.sound
    · exact (steady.faulted ho nofun).sound
  · exact sound

/-! ### The wake, write enable and the limits of time -/

theorem keepsSound_wakeIntervalEnd : KeepsSound .wakeIntervalEnd := by
  intro s t sound running done
  obtain rfl := Host.Outcome.next.inj done
  split
  · next user o _ ho =>
    split
    · have steady := sound.steady running
      have noErase : s.link.erasing = none := steady.link.noErase_of_op ho nofun nofun
      split
      · have ended : ((s.withPower .awake).withOp none).Steady Link.Awake := steady.congr rfl rfl rfl ⟨rfl, noErase, nofun⟩
        exact (keptByEnds_steady.startOp .mount .settle nofun (ended.mountStep _)).coherent.sound
      · next notWake =>
        refine State.Steady.sound (steady.congr (by simp) (by simp) (by simp) ?_)
        exact ((s.withPower .awake).firstCommand_awake user o rfl noErase notWake).coherent
    · exact sound
  · exact sound

/-- ERASE issued: its record runs with the operation (R111). -/
theorem State.Steady.eraseBegun {s : State} (steady : s.Steady Link.Coherent) (power : s.link.power = .awake)
    (es : List LinkEvent) (user : LinkUser) (p accrued start since : Nat) :
    (((s.drive es).setOp user (.erase p) (.polling start)).withErasing
      (some { sector := p, user := user, accrued := accrued, since := since, progress := .running })).Steady Link.Coherent := by
  refine steady.congr rfl rfl rfl ⟨fun h => ?_, iff_of_false (fun h => ?_) ?_, ?_, ?_, nofun⟩
  · have h : s.link.power.needsWake = true := h
    rw [power] at h; exact nomatch h
  · exact nomatch power.symm.trans h
  · rintro ⟨_, _, ⟨⟩, h⟩; exact nomatch h
  · rintro _ ⟨⟩ h; exact nomatch h
  · rintro _ ⟨⟩ -; exact ⟨_, _, rfl, rfl, rfl, rfl⟩

theorem keepsSound_writeEnableStatus (st : Byte) : KeepsSound (.writeEnableStatus st) := by
  intro s t sound running done
  have steady := sound.steady running
  obtain rfl := Host.Outcome.next.inj done
  split
  · next ho =>
    apply State.Steady.sound
    split
    · exact (steady.driven _).goesOn ho nofun nofun nofun _ _ _ (by exact nofun)
    · exact steady.faulted ho nofun
  · next ho =>
    apply State.Steady.sound
    split
    · exact steady.eraseBegun (steady.link.power_of_op ho nofun) _ _ _ _ _ _
    · exact steady.faulted ho nofun
  · exact sound

/-- An erase that is not suspended is in progress, polling (R119). -/
theorem Link.Coherent.op_of_erasing {k : Link} (law : k.Coherent) {e : EraseRecord} (he : k.erasing = some e)
    (runs : e.progress ≠ .suspended) : ∃ o, k.op = some o ∧ ∀ since, o.stage ≠ .waking since := by
  obtain ⟨o, start, ho, -, -, stage⟩ := law.running e he runs
  exact ⟨o, ho, fun _ h => nomatch stage.symm.trans h⟩

theorem keepsSound_suspendLatencyExpiry : KeepsSound .suspendLatencyExpiry := by
  intro s t sound running done
  obtain rfl := Host.Outcome.next.inj done
  split
  · next due =>
    have steady := sound.steady running
    -- What waits for SUSP is an erase in progress or a settle.
    obtain ⟨o, ho, past⟩ : ∃ o, s.link.op = some o ∧ ∀ since, o.stage ≠ .waking since := by
      rw [State.suspendOverdue, Bool.or_eq_true] at due
      rcases due with due | due
      · cases he : s.link.erasing with
        | none => rw [he] at due; exact nomatch due
        | some e =>
          rw [he] at due
          exact steady.link.op_of_erasing he fun h => by simp [h, EraseProgress.overdue] at due
      · cases ho : s.link.op with
        | none => rw [ho] at due; exact nomatch due
        | some o =>
          rw [ho] at due
          exact ⟨o, rfl, fun since h => by simp [h, OpStage.overdue] at due⟩
    exact (steady.faulted ho past).sound
  · exact sound

theorem keepsSound_busyLimitExpiry : KeepsSound .busyLimitExpiry := by
  intro s t sound running done
  obtain rfl := Host.Outcome.next.inj done
  split
  · next due =>
    -- Only a poll and a settle have a limit.
    obtain ⟨o, ho, past⟩ : ∃ o, s.link.op = some o ∧ ∀ since, o.stage ≠ .waking since := by
      unfold State.busyOverdue at due
      split at due
      · next ho => exact ⟨_, ho, nofun⟩
      · next ho => exact ⟨_, ho, nofun⟩
      · next ho => exact ⟨_, ho, nofun⟩
      · exact nomatch due
    exact ((sound.steady running).faulted ho past).sound
  · exact sound

/-! ### Suspension -/

theorem keepsSound_progressGuardPasses : KeepsSound .progressGuardPasses := by
  intro s t sound running done
  obtain rfl := Host.Outcome.next.inj done
  have steady := sound.steady running
  exact State.Steady.sound (steady.congr (by simp) (by simp) (by simp) (s.trySuspend_coherent steady.link))

theorem keepsSound_suspendStatus (st : Byte) : KeepsSound (.suspendStatus st) := by
  intro s t sound running done
  obtain rfl := Host.Outcome.next.inj done
  split
  · next e he =>
    split
    · next progress =>
      have steady := sound.steady running
      obtain ⟨o, ho, past⟩ := steady.link.op_of_erasing he (by rw [progress]; nofun)
      split
      · exact sound
      · split
        · have between : ((s.withOp none).withErasing (some { e with progress := .suspended })).link.Between := by
            refine ⟨steady.link.power_of_op ho past, rfl, ?_, by rintro _ ⟨⟩; rfl⟩
            by_contra made
            obtain ⟨l, granted⟩ := Option.ne_none_iff_exists'.mp made
            exact nomatch (sound.link.granted l granted).1.symm.trans ho
          exact State.Steady.sound (steady.congr (by simp) (by simp) (by simp) (State.tryResume_coherent _ between))
        · exact (keptByEnds_steady.eraseOutcome (steady.eraseEnded ho past) _ _ _).coherent.sound
    all_goals exact sound
  · exact sound

theorem keepsSound_resumeStatus (st : Byte) : KeepsSound (.resumeStatus st) := by
  intro s t sound running done
  obtain rfl := Host.Outcome.next.inj done
  have steady := sound.steady running
  split
  · exact sound
  · split
    · next ho =>
      exact (steady.goesOn ho nofun nofun nofun _ _ _ (by exact nofun)).sound
    · next e he _ =>
      split
      · next progress =>
        obtain ⟨-, waking, -, runs, -⟩ := id steady.link
        obtain ⟨o, start, ho, user, op, stage⟩ := runs e he (by rw [progress]; nofun)
        refine State.Steady.sound (steady.congr rfl rfl rfl
          ⟨fun h => ?_, waking, ?_, ?_, fun idle => nomatch idle.symm.trans ho⟩)
        · exact nomatch (steady.link.asleep h).2.symm.trans he
        · rintro _ ⟨⟩ h; exact nomatch h
        · rintro _ ⟨⟩ -; exact ⟨o, start, ho, user, op, stage⟩
      all_goals exact sound
    · exact sound

/-! ## Every command keeps the laws -/

/-- Reset entered, whatever the state before (R148). -/
theorem State.resetBlocks_sound (s : State) (rstnLow internalReset : Bool) (cause : (rstnLow || internalReset) = true) :
    (s.resetBlocks rstnLow internalReset).Sound :=
  (s.resetBlocks_resetLaw rstnLow internalReset).sound cause

/-- Out of reset no cause of reset can end; reset can begin. -/
theorem keepsSound (i : Instr) : KeepsSound i := by
  cases i with
  | rstnAssert =>
    intro s t _ _ done
    obtain rfl := Host.Outcome.next.inj done
    exact State.resetBlocks_sound _ _ _ rfl
  | powerOn =>
    intro s t _ _ done
    obtain rfl := Host.Outcome.next.inj done
    exact State.resetBlocks_sound _ _ _ rfl
  | resetRelease =>
    intro s t sound running done
    obtain rfl := Host.Outcome.next.inj done
    rw [if_neg (by simpa using (Bool.or_eq_false_iff.mp running).1)]
    exact sound
  | internalResetEnd =>
    intro s t sound running done
    obtain rfl := Host.Outcome.next.inj done
    rw [if_neg (by simpa using (Bool.or_eq_false_iff.mp running).2)]
    exact sound
  | hlatFall had hau => exact keepsSound_hlatFall had hau
  | dataPhaseStart hdir hlanen had => exact keepsSound_dataPhaseStart hdir hlanen had
  | dataPhaseEnd => exact keepsSound_dataPhaseEnd
  | readyHoldLimitExpiry => exact keepsSound_readyHoldLimitExpiry
  | waitingWriteRedecide => exact keepsSound_waitingWriteRedecide
  | flushRisingEdge => exact keepsSound_flushRisingEdge
  | powerWarningAssertion => exact keepsSound_powerWarningAssertion
  | powerWarningDeassertion => exact keepsSound_powerWarningDeassertion
  | drainFinished => exact keepsSound_drainFinished
  | haltedPowerDown => exact keepsSound_haltedPowerDown
  | quietCountExpiry => exact keepsSound_quietCountExpiry
  | holdCountExpiry => exact keepsSound_holdCountExpiry
  | dozeCountExpiry => exact keepsSound_dozeCountExpiry
  | progressGuardPasses => exact keepsSound_progressGuardPasses
  | suspendStatus st => exact keepsSound_suspendStatus st
  | resumeStatus st => exact keepsSound_resumeStatus st
  | suspendLatencyExpiry => exact keepsSound_suspendLatencyExpiry
  | busyLimitExpiry => exact keepsSound_busyLimitExpiry
  | linkGrant => exact keepsSound_linkGrant
  | wakeIntervalEnd => exact keepsSound_wakeIntervalEnd
  | writeEnableStatus st => exact keepsSound_writeEnableStatus st
  | hostReadRunEnd bytes => exact keepsSound_hostReadRunEnd bytes
  | pageReadEnd bytes => exact keepsSound_pageReadEnd bytes
  | programEnd st => exact keepsSound_programEnd st
  | readBackEnd bytes => exact keepsSound_readBackEnd bytes
  | eraseEnd st => exact keepsSound_eraseEnd st
  | journalNextRequest => exact keepsSound_journalNextRequest
  | commitTake => exact keepsSound_commitTake
  | eraseEngineRequest => exact keepsSound_eraseEngineRequest
  | identifyEnd b0 b1 b2 => exact keepsSound_identifyEnd b0 b1 b2
  | settleEnd st => exact keepsSound_settleEnd st
  | mountReadEnd bytes => exact keepsSound_mountReadEnd bytes

theorem exec_sound (i : Instr) (s t : State) (sound : s.Sound) (done : exec i s = .next t) : t.Sound := by
  cases inReset : s.inReset with
  | false => exact keepsSound i s t sound inReset done
  | true =>
    have law := sound.reset
    cases i
    case rstnAssert =>
      obtain rfl := Host.Outcome.next.inj done
      exact State.resetBlocks_sound _ _ _ rfl
    case powerOn =>
      obtain rfl := Host.Outcome.next.inj done
      exact State.resetBlocks_sound _ _ _ rfl
    case resetRelease =>
      obtain rfl := Host.Outcome.next.inj done
      split
      · exact law.sampled inReset _ _ _ _ _ _
      · exact sound
    case internalResetEnd =>
      obtain rfl := Host.Outcome.next.inj done
      split
      · exact law.sampled inReset _ _ _ _ _ _
      · exact sound
    all_goals
      obtain rfl := Host.Outcome.next.inj (done.symm.trans (exec_inReset law inReset _ nofun nofun nofun nofun))
      exact sound

/-- No law speaks of the timebase or of the waiting commands. -/
theorem State.Sound.aside {s : State} (sound : s.Sound) (now : Nat) (pending : List Instr) :
    ({ s with now := now, pending := pending } : State).Sound := by
  obtain ⟨reset, mode, port, link, doze⟩ := sound
  obtain ⟨r1, r2, r3, r4, r5, r6, r7, r8, r9, r10, r11, r12, r13⟩ := reset
  obtain ⟨k1, k2, k3, k4, k5, k6, k7, k8⟩ := link
  exact ⟨⟨r1, r2, r3, r4, r5, r6, r7, r8, r9, r10, r11, r12, r13⟩, mode.congr rfl, port.congr rfl rfl rfl rfl,
    ⟨k1, k2, k3, k4, k5, k6, k7, k8⟩, doze⟩

/-- Settles O4: in reset nothing changes but by the causes of reset; out of reset each command's changes keep `State.Steady`,
and the end of the step gives the arbiter's and the doze count's laws. -/
theorem stepKeepsSoundness : Obligations.StepKeepsSoundness := by
  intro s t sound done
  unfold step at done
  split at done
  · next i rest _ => exact exec_sound i _ t (sound.aside s.now rest) done
  · obtain rfl := Host.Outcome.next.inj done
    exact sound.aside (s.now + 1) s.pending

end Sys2Proof.Machine
end
